-- ==== Sys2Proof/Word.lean ====
section
/-! DEFINITION. The number types of the SJ-40 and the three plain operations on fixed tables. -/

namespace Sys2Proof

/-- One byte of a frame, a record or the effects memory. -/
abbrev Byte := BitVec 8

/-- A field number: the 32-bit count that wraps (00_scope, Conventions; R70, R75). -/
abbrev FieldNo := BitVec 32

/-- An address of the memory port, taken modulo 2^24 (R159). -/
abbrev Address := BitVec 24

/-- A time in whole microseconds ("Times are kept to the microsecond", chapter Field Reference). -/
abbrev Micros := Nat

/-- Bank b of the text is index b - 1 here. -/
abbrev BankIx := Fin 4

/-- Keyer k of the text is index k - 1 here. -/
abbrev KeyerIx := Fin 4

/-- Panel links PL0 to PL5. -/
abbrev LinkIx := Fin 6

/-- GPI lines GP0 to GP7. -/
abbrev LineIx := Fin 8

/-- Control elements 0 to 24 (R94). -/
abbrev ElemIx := Fin 25

/-- A source code, 0 to 54 (R1). -/
abbrev Source := Fin 55

/-- A set of layers: bit 0 BKGD, bits 1 to 4 K1 to K4 (R5, R139). -/
abbrev LayerSet := BitVec 5

/-- The entry of a table at an index. -/
def pick {α : Type} {n : Nat} (v : Vector α n) (i : Fin n) : α := v[i.val]'i.isLt

/-- The table with the entry at one index replaced by its image under `f`. -/
def upd {α : Type} {n : Nat} (v : Vector α n) (i : Fin n) (f : α → α) : Vector α n :=
  v.set i.val (f (pick v i)) i.isLt

/-- The table of a function's values. -/
def tab {α : Type} {n : Nat} (f : Fin n → α) : Vector α n := Vector.ofFn f

/-- All indices of a table, in increasing order. -/
def indices (n : Nat) : List (Fin n) := List.finRange n

end Sys2Proof
end

