-- ==== Sys2Proof/Config.lean ====
section
/-! DEFINITION. The sizes and times that the specification fixes for every SJ-40. No value is left free:
the specification leaves only the order of events to the outside, and that order is the order of commands. -/

namespace Sys2Proof.Config

/-- Places of the schedule list (R72). -/
abbrev listPlaces : Nat := 64
/-- Crosspoint changes of one sweep (R82). -/
abbrev crosspointBudget : Nat := 16
/-- The age, in fields behind the target, at which an entry is refused (R75) and a stale value rewritten (R10). -/
abbrev staleAge : Nat := 1073741824
/-- Half the field counter's range (R10). -/
abbrev halfRange : Nat := 2147483648
/-- Places of a TAKE queue (R117). -/
abbrev takePlaces : Nat := 8
/-- Places of a SETUP queue (R117). -/
abbrev setupPlaces : Nat := 24
/-- SETUP occupancy that raises HOLD-OFF (R119). -/
abbrev holdOffAt : Nat := 20
/-- SETUP occupancy that sends RESUME (R119). -/
abbrev resumeAt : Nat := 8
/-- General places of a transmit queue (R120). -/
abbrev generalPlaces : Nat := 31
/-- The value a 16-bit count stays at (R97, R114, R118, R149). -/
abbrev countLimit : Nat := 65535
/-- The value a take-run counter stays at (R124). -/
abbrev takeRunLimit : Nat := 15
/-- Places of the Memory Engine's job queue (R161). -/
abbrev jobPlaces : Nat := 4
/-- Most descriptors of a chain (R164). -/
abbrev chainLimit : Nat := 8
/-- Most items of a configuration block (R171). -/
abbrev blockItems : Nat := 80
/-- The PRESENT debounce (R112). -/
abbrev debounceTime : Micros := 10000
/-- The longest gap between two bytes of a frame (R114). -/
abbrev gapTime : Micros := 1000
/-- One byte on a panel link's line (R112). -/
abbrev linkByteTime : Micros := 10
/-- Bits a microsecond on a panel link's line, 1 Mbit/s (R112). -/
abbrev linkRate : Nat := 1
/-- Bits a microsecond on the parameter or tally port's line, 10 Mbit/s (R146, R157). -/
abbrev portRate : Nat := 10
/-- The memory port's timeout (R159). -/
abbrev memoryTime : Micros := 64
/-- One unit of a GPI filter value (R173). -/
abbrev filterUnit : Micros := 100
/-- The least time between two field starts, and the least measured period (R149, R152). -/
abbrev shortestField : Micros := 8000
/-- The greatest measured period (R152). -/
abbrev longestField : Micros := 40000
/-- The measured period after power-on (R154). -/
abbrev firstPeriod : Micros := 20000
/-- The whole of a transition or a key level (00_scope, Fractions). -/
abbrev whole : Nat := 4096

end Sys2Proof.Config
end

