-- ==== Sys2Proof/Syntax.lean ====
section
/-! DEFINITION. The commands of the SJ-40: one constructor for each row of spec/opcode_table.json.
A command whose row is an event from outside carries what the outside brings: the link, line or bank it falls on,
the level or bytes, and `dt`, the microseconds from the moment of the command before it. A command whose row is a
served request or another step of the part itself carries nothing: what it works on stands in the state. -/

namespace Sys2Proof

/-- One byte as a link's receiver sees it: its 8 data bits, and whether its stop bit came (R114). -/
structure RxByte where
  data : Byte
  stop : Bool
deriving DecidableEq, Repr

/-- The commands. -/
inductive Instr where
  /-- POWER_ON (R182): the BANKS strap is sampled at the level given. -/
  | powerOn (strapHigh : Bool)
  /-- PRESENT_CHANGE (R112). -/
  | presentChange (l : LinkIx) (asserted : Bool) (dt : Micros)
  /-- LINK_UP (R112): the 10 ms of a link's PRESENT have run. -/
  | linkUp (l : LinkIx)
  /-- LINK_DOWN (R113): the 10 ms of a link's deasserted PRESENT have run. -/
  | linkDown (l : LinkIx)
  /-- FRAME_ARRIVAL (R116): the bytes of a frame arrive back to back, the first at `dt`. -/
  | frameArrival (l : LinkIx) (bytes : List RxByte) (dt : Micros)
  /-- INTERBYTE_TIMEOUT (R114). -/
  | interbyteTimeout (l : LinkIx)
  /-- TRANSMIT_END (R122). -/
  | transmitEnd (l : LinkIx)
  /-- MALFORMED_FRAME (R116). -/
  | malformedFrame
  /-- SELECT (R127). -/
  | select
  /-- CUT (R127). -/
  | cut
  /-- AUTO (R127). -/
  | auto
  /-- HOLD (R127). -/
  | hold
  /-- LEVER (R129). -/
  | lever
  /-- KEY_CUT (R127). -/
  | keyCut
  /-- KEY_SETUP (R128). -/
  | keySetup
  /-- TRANS_SETUP (R128). -/
  | transSetup
  /-- LAYERS (R127). -/
  | layers
  /-- CLAIM (R102). -/
  | claim
  /-- RELEASE (R103). -/
  | release
  /-- BREAK (R104). -/
  | breakLock
  /-- RECALL (R85). -/
  | recallEffect
  /-- STORE (R167). -/
  | store
  /-- CANCEL (R89). -/
  | cancel
  /-- CONFIG (R181). -/
  | config
  /-- SAVE_CONFIG (R170). -/
  | saveConfig
  /-- RESET (R137). -/
  | reset
  /-- QUERY_BANK (R136). -/
  | queryBank
  /-- QUERY_CLAIMS (R109). -/
  | queryClaims
  /-- QUERY_SCHEDULE (R91). -/
  | querySchedule
  /-- QUERY_LINK (R136). -/
  | queryLink
  /-- QUERY_GPI (R178). -/
  | queryGpi
  /-- QUERY_CONFIG (R136). -/
  | queryConfig
  /-- QUERY_FIELD (R158). -/
  | queryField
  /-- REF_PULSE (R150). -/
  | refPulse (dt : Micros)
  /-- LOSS_DEADLINE (R150). -/
  | lossDeadline
  /-- FREERUN_DEADLINE (R151). -/
  | freerunDeadline
  /-- SWEEP_ENTRY (R77). -/
  | sweepEntry
  /-- SWEEP_LINKED_SET (R83). -/
  | sweepLinkedSet
  /-- FIELD_UPDATE (R47): the Transition Controller of one bank takes its step. -/
  | fieldUpdate (b : BankIx)
  /-- PARAMETER_RECORD_SENT (R157). -/
  | parameterRecordSent
  /-- TALLY_FRAME_SENT (R146). -/
  | tallyFrameSent
  /-- MEMORY_READY (R159): ready arrives, with the byte on the data path. -/
  | memoryReady (data : Byte) (dt : Micros)
  /-- MEMORY_TIMEOUT (R159). -/
  | memoryTimeout
  /-- GPI_PIN_CHANGE (R173). -/
  | gpiPinChange (n : LineIx) (level : Bool) (dt : Micros)
  /-- GPI_FILTER_EXPIRY (R173). -/
  | gpiFilterExpiry (n : LineIx)
  /-- BYTE_ARRIVAL (R114). -/
  | byteArrival (l : LinkIx) (byte : RxByte) (dt : Micros)
deriving DecidableEq, Repr

end Sys2Proof
end

