-- ==== Sys2Proof/Machine/State.lean ====
section
/-! DEFINITION. The state of the SJ-40 as plain data, unit by unit as the chapters name it, the reasons a step
could stop, and the state right after power-on. -/

namespace Sys2Proof.Machine

/-! ### Bank State Store (R5 to R11, R15) -/

/-- The transition kind (R5). -/
inductive Kind where
  | mix
  | wipe
deriving DecidableEq, Repr

/-- The wipe direction (R5). -/
inductive Direction where
  | normal
  | reverse
  | flipflop
deriving DecidableEq, Repr

/-- The border colour (R5). -/
inductive BorderColour where
  | bkgd1
  | bkgd2
deriving DecidableEq, Repr

/-- A keyer's type (R6). -/
inductive KeyerType where
  | luma
  | linear
deriving DecidableEq, Repr

/-- The controller state (R7, R19). -/
inductive Phase where
  | idle
  | auto
  | lever
  | paused
deriving DecidableEq, Repr

/-- The lever engagement (R7). -/
inductive Engagement where
  | free
  | following
  | pickup
  | pickupBelow
  | pickupAbove
  | parked
deriving DecidableEq, Repr

/-- The lever sense (R7). -/
inductive Sense where
  | normal
  | inverted
deriving DecidableEq, Repr

/-- The two background buses of a bank. -/
inductive Bus where
  | a
  | b
deriving DecidableEq, Repr

/-- A keyer sub-record (R6) with the ready fields of its two slots (R8). -/
structure Keyer where
  fill : Source
  key : Source
  kind : KeyerType
  clip : Nat
  gain : Nat
  invert : Bool
  onAir : Bool
  level : Nat
  fillReady : FieldNo
  keyReady : FieldNo
deriving DecidableEq, Repr

/-- The bank state record (R5 to R11). -/
structure BankRecord where
  a : Source
  b : Source
  kind : Kind
  rate : Nat
  pattern : Nat
  direction : Direction
  flip : Bool
  softness : Nat
  borderWidth : Nat
  borderColour : BorderColour
  layers : LayerSet
  keyers : Vector Keyer 4
  phase : Phase
  progress : Nat
  remaining : Nat
  sense : Sense
  engagement : Engagement
  bReady : FieldNo
  dwellEnd : FieldNo
  waiting : Bool
  aborted : Bool
  done : Bool
deriving DecidableEq, Repr

/-- A keyer as an effect record lists it (R139, Effect record). -/
structure EffectKeyer where
  fill : Source
  key : Source
  kind : KeyerType
  invert : Bool
  onAir : Bool
  clip : Nat
  gain : Nat
deriving DecidableEq, Repr

/-- A checked effect record (R166): `keyers` holds each listed keyer at its number. -/
structure Effect where
  a : Source
  b : Source
  kind : Kind
  rate : Nat
  pattern : Nat
  direction : Direction
  softness : Nat
  borderWidth : Nat
  borderColour : BorderColour
  layers : LayerSet
  keyers : Vector (Option EffectKeyer) 4
deriving DecidableEq, Repr

/-- A lever register that holds a position, with the link that wrote it (R39). -/
structure LeverReading where
  position : Nat
  writer : LinkIx
deriving DecidableEq, Repr

/-- One bank: the two copies of its record (R12), the target field its published copy stands for (R13, R15), the
controller's step mark (R20), the lever register (R39), the sweep-end it has been told of and not yet answered by
its field update (R84), and its staging record (R166). -/
structure Bank where
  working : BankRecord
  published : BankRecord
  publishedFor : FieldNo
  stepMark : Bool
  lever : Option LeverReading
  updateDue : Option FieldNo
  staging : Option Effect
deriving DecidableEq, Repr

/-! ### Schedule (R70) -/

/-- The origin of an entry: a panel link with the request's tag, or a GPI line, which has no tag (R70). -/
inductive Origin where
  | link (p : LinkIx) (tag : Byte)
  | line (n : LineIx)
deriving DecidableEq, Repr

/-- The fields a KEY-SETUP's mask selects, as stored (R31, R128). -/
structure KeyFields where
  fill : Option Source
  key : Option Source
  kind : Option KeyerType
  clip : Option Nat
  gain : Option Nat
  invert : Option Bool
deriving DecidableEq, Repr

/-- The fields a TRANS-SETUP's mask selects, as stored (R32, R128). -/
structure TransFields where
  kind : Option Kind
  rate : Option Nat
  pattern : Option Nat
  direction : Option Direction
  softness : Option Nat
  borderWidth : Option Nat
  borderColour : Option BorderColour
deriving DecidableEq, Repr

/-- An action with its operands; a RECALL carries its memory state, FETCHING or STAGED (R70). -/
inductive Action where
  | select (bus : Bus) (source : Source)
  | cut
  | auto
  | hold
  | keyCut (k : KeyerIx) (on : Bool)
  | keySetup (k : KeyerIx) (fields : KeyFields)
  | transSetup (fields : TransFields)
  | layers (set : LayerSet)
  | recallEffect (register : Nat) (staged : Bool)
deriving DecidableEq, Repr

/-- An entry of the schedule list (R70). `linked` is the linked-set mark, with the number of the set; `dealt` marks
an entry that the sweep in progress has dealt with and left in the list. Both numbers are the model's own. -/
structure Entry where
  due : FieldNo
  origin : Origin
  bank : BankIx
  action : Action
  linked : Option Nat
  count : Option Nat
  dealt : Bool
deriving DecidableEq, Repr

/-- The state a sweep keeps of its own (chapter The Schedule, The sweep; R76). -/
structure Sweep where
  target : FieldNo
  used : Nat
  deferred : Vector Bool 4
deriving DecidableEq, Repr

/-! ### Claim Table (R97) -/

/-- A held entry of the Claim Table; an empty entry is `none` (R97). -/
structure Claim where
  holder : LinkIx
  lock : Bool
  age : Nat
  orphaned : Bool
deriving DecidableEq, Repr

/-! ### Frames the part sends (R131 to R136) -/

/-- The reasons of REFUSE and NOTICE (R132, R133). -/
inductive Reason where
  | badType
  | badLength
  | badBank
  | badSource
  | badValue
  | loop
  | noGroup
  | held
  | locked
  | notHolder
  | notLocked
  | listFull
  | memBusy
  | notFound
  | queueFull
  | busy
  | nothing
  | duplicate
  | ignored
  | superseded
  | emptyReg
  | badRecord
  | memFault
  | done
deriving DecidableEq, Repr

/-- What an ACCEPT carries after the type it answers (R131). -/
inductive Accepted where
  | due (d : FieldNo)
  | dueKey (d : FieldNo) (fields : KeyFields)
  | dueTrans (d : FieldNo) (fields : TransFields)
  | element (e : ElemIx)
  | count (n : Nat)
  | item (number : Nat) (value : BitVec 16)
  | register (r : Nat)
  | plain
deriving DecidableEq, Repr

/-- One line as a GPI-STATE report shows it (R178). -/
structure GpiReport where
  out : Bool
  level : Bool
  pin : Bool
  edge : Bool
  dropped : Bool
deriving DecidableEq, Repr

/-- A flow-control frame (R119). -/
inductive Flow where
  | holdOff
  | resume
deriving DecidableEq, Repr

/-- A frame for a panel, with what it describes as it stood when the frame was queued (R134). -/
inductive TxFrame where
  | accept (tag : Byte) (answered : Byte) (info : Accepted)
  | refuse (tag : Byte) (refused : Byte) (reason : Reason) (holder : Option LinkIx)
  | notice (tag : Byte) (reason : Reason) (bank : Option BankIx)
  | bankState (bank : BankIx) (n : FieldNo) (record : BankRecord)
  | claimState (subject : Option BankIx) (entries : List (ElemIx × Option Claim))
  | scheduleList (tag : Byte) (sequence : Nat) (reports : Nat) (f : FieldNo) (entries : List Entry)
  | linkCounts (tag : Byte) (link : LinkIx) (up : Bool) (holdOff : Bool) (take : Nat) (setup : Nat) (transmit : Nat)
      (promised : Nat) (frameErrors : Nat) (overflow : Nat)
  | gpiState (tag : Byte) (lines : List GpiReport)
  | configValue (tag : Byte) (item : Nat) (value : BitVec 16)
  | fieldStatus (tag : Byte) (f : FieldNo) (locked : Bool) (cfgDefault : Bool) (running : Bool) (period : Nat)
      (spurious : Nat)
  | flow (f : Flow)
deriving DecidableEq, Repr

/-! ### Panel links (R112 to R125) -/

/-- The contents of a request as its frame carries them, not yet examined (R139, Request bodies). A malformed frame
carries its type and its fault, BADTYPE or BADLENGTH (R116). -/
inductive Body where
  | select (bank bus source lead : Byte)
  | cut (mask lead : Byte)
  | auto (mask lead : Byte)
  | hold (mask lead : Byte)
  | lever (bank : Byte) (position : Nat)
  | keyCut (bank keyer onOff lead : Byte)
  | keySetup (bank keyer mask fill key kind : Byte) (clip gain : Nat) (invert lead : Byte)
  | transSetup (bank mask kind : Byte) (rate : Nat) (pattern direction softness borderWidth borderColour lead : Byte)
  | layers (bank set lead : Byte)
  | claim (element : Byte)
  | release (element : Byte)
  | breakLock (element : Byte)
  | recallEffect (bank register lead : Byte)
  | store (bank register : Byte)
  | cancel (tag : Byte)
  | config (item : Byte) (value : BitVec 16)
  | saveConfig
  | reset
  | query (subject argument : Byte)
  | malformed (frameType : Byte) (fault : Reason)
deriving DecidableEq, Repr

/-- A request waiting in a receive queue: its tag and its contents (R117). -/
structure Request where
  tag : Byte
  body : Body
deriving DecidableEq, Repr

/-- The two receive queues of a link (R117). -/
inductive QueueKind where
  | take
  | setup
deriving DecidableEq, Repr

/-- A receiver: hunting, or inside a frame with the bytes taken so far, the start byte first, and the moment of the
last of them (R114). -/
inductive Receiver where
  | hunting
  | inFrame (got : List Byte) (last : Micros)
deriving DecidableEq, Repr

/-- A Panel Link Interface (R112 to R125). `present` is the level of the PRESENT input and `since` the moment from
which its 10 ms are being measured; `line` is the frame on the line with the moment it began. -/
structure Link where
  up : Bool
  present : Bool
  since : Option Micros
  receiver : Receiver
  takeQ : List Request
  setupQ : List Request
  holdOff : Bool
  slot : Option Flow
  tx : List TxFrame
  line : Option (TxFrame × Micros)
  takeRun : Nat
  frameErrors : Nat
  overflow : Nat
deriving DecidableEq, Repr

/-! ### Field Reference Unit (R149 to R154) -/

/-- The Field Reference Unit. -/
structure FieldRef where
  counter : FieldNo
  locked : Bool
  period : Micros
  spurious : Nat
  lastStart : Micros
  lastReal : Bool
  deadline : Micros
deriving DecidableEq, Repr

/-! ### Tally Resolver and the output ports (R141, R146, R156) -/

/-- The result of one resolution (R141). -/
structure TallyTable where
  field : FieldNo
  pgm : Vector Bool 55
  pvw : Vector Bool 55
  running : Vector Bool 4
  done : Vector Bool 4
deriving DecidableEq, Repr

/-- The gathering: the target field whose publications are collected, and the banks that have published (R141). -/
structure Gathering where
  field : FieldNo
  banks : Vector Bool 4
deriving DecidableEq, Repr

/-- A tally frame (R146). -/
structure TallyFrame where
  field : FieldNo
  pgm : Vector Bool 55
  pvw : Vector Bool 55
deriving DecidableEq, Repr

/-- A keyer's wipe mark (R38). -/
inductive WipeMark where
  | none
  | wipedOn
  | wipedOff
deriving DecidableEq, Repr

/-- A keyer's part of a field parameter record (R156). -/
structure ParamKeyer where
  fill : Source
  key : Source
  kind : KeyerType
  invert : Bool
  mark : WipeMark
  lift : Nat
  slope : Nat
  level : Nat
deriving DecidableEq, Repr

/-- A field parameter record (R156). -/
structure ParamRecord where
  field : FieldNo
  bank : BankIx
  a : Source
  b : Source
  phase : Phase
  kind : Kind
  reverse : Bool
  wiped : Bool
  pattern : Nat
  borderColour : BorderColour
  mix : Nat
  tlo : Int
  edge : Nat
  slope : Nat
  border : Nat
  keyers : Vector ParamKeyer 4
deriving DecidableEq, Repr

/-- The Parameter Port: the record on its line with the moment it began, and those handed and not yet begun (R157). -/
structure ParamPort where
  line : Option (ParamRecord × Micros)
  waiting : List ParamRecord
deriving DecidableEq, Repr

/-- The Tally Port: the frame on its line with the moment it began, and those handed and not yet begun (R146). -/
structure TallyPort where
  line : Option (TallyFrame × Micros)
  waiting : List TallyFrame
deriving DecidableEq, Repr

/-! ### Memory Engine (R159 to R171) -/

/-- A job (R161). A store job holds its snapshot from its acceptance (R167). -/
inductive Job where
  | recallEffect (bank : BankIx) (register : Nat) (origin : Origin)
  | store (link : LinkIx) (tag : Byte) (bank : BankIx) (register : Nat) (snapshot : List Byte)
  | save (link : LinkIx) (tag : Byte)
  | load
deriving DecidableEq, Repr

/-- A descriptor of a chain (R139, Directory entry and descriptor). -/
structure Descriptor where
  fragment : Address
  length : Nat
  last : Bool
  next : Nat
deriving DecidableEq, Repr

/-- The stage of the active job, with what its context holds there (R161, R163 to R171). -/
inductive Stage where
  /-- The directory stage: the bytes of the directory entry read so far. -/
  | directory (got : List Byte)
  /-- The chain stage: the chain address, the record length and CRC kept, the descriptors read so far, and the bytes
  of the descriptor being read. -/
  | chain (start : Address) (length : Nat) (crc : BitVec 32) (read : List Descriptor) (got : List Byte)
  /-- The fragment stage: the record length and CRC, the descriptors, and the gathering buffer. -/
  | fragments (length : Nat) (crc : BitVec 32) (read : List Descriptor) (buffer : List Byte)
  /-- A store or a save: the writes still to be made after the one in flight. -/
  | writing (rest : List (Address × Byte))
  /-- The load: the bytes of the configuration block read so far. -/
  | loading (got : List Byte)
deriving DecidableEq, Repr

/-- An access on the memory port: its address, the byte of a write (`none` for a read), and the moment request was
raised (R159). -/
structure Access where
  address : Address
  data : Option Byte
  raised : Micros
deriving DecidableEq, Repr

/-- The Memory Engine: the job queue, whose head is the active job when `stage` is present, and the memory port. An
access with no stage is one carried to its end for an abandoned job (R161, R162). -/
structure Engine where
  jobs : List Job
  stage : Option Stage
  port : Option Access
deriving DecidableEq, Repr

/-! ### GPI Unit (R172) -/

/-- A line's context (R172): `pin` is the level of the line's pin, an input from outside; `timer` is the moment its
filter timer expires while it runs; `driven` is the level an OUT line drives, `none` for an IN line. -/
structure GpiLine where
  pin : Bool
  accepted : Bool
  timer : Option Micros
  edge : Bool
  dropped : Bool
  driven : Option Bool
deriving DecidableEq, Repr

/-! ### The whole part -/

/-- The state of the SJ-40. `pending` is the queue of commands waiting, first in, first out; `now` is the moment of
the last command in microseconds from power-on. -/
structure State where
  pending : List Instr
  now : Micros
  /-- The BANKS strap as sampled at power-on (R182). -/
  strapHigh : Bool
  /-- STARTING or RUNNING (R182, R183). -/
  running : Bool
  /-- CFGDEFAULT (R183). -/
  cfgDefault : Bool
  /-- The Configuration Table by item number (R179); numbers not assigned stay 0 and are read by nothing. -/
  items : Vector (BitVec 16) 88
  banks : Vector Bank 4
  /-- The schedule list (R70, R72). -/
  schedule : List Entry
  /-- The number the next linked set takes: the model's own. -/
  nextSet : Nat
  sweep : Option Sweep
  /-- The Claim Table (R97). -/
  claims : Vector (Option Claim) 25
  links : Vector Link 6
  /-- The Command Arbiter's round-robin pointer (chapter Panel Links, The Command Arbiter). -/
  pointer : LinkIx
  ref : FieldRef
  table : Option TallyTable
  gathering : Option Gathering
  paramPort : ParamPort
  tallyPort : TallyPort
  engine : Engine
  lines : Vector GpiLine 8
deriving DecidableEq, Repr

/-- The reasons the part would stop with a fault. The specification gives it none. -/
inductive Fault where
  /-- No command raises it: every row of the table has an effect or none, and the part never halts. Safe. -/
  | halted
deriving DecidableEq, Repr

/-- The reasons a command is refused by the model. -/
inductive Refusal where
  /-- Raised by an arm of `exec` whose command has no meaning yet; no arm raises it now. Safe. -/
  | notModelled (mnemonic : String)
deriving DecidableEq, Repr

/-! ### Power-on values -/

/-- The default keyer (R15). -/
def Keyer.default : Keyer :=
  { fill := 0, key := 0, kind := .luma, clip := 0, gain := 0, invert := false, onAir := false, level := 0,
    fillReady := 0, keyReady := 0 }

/-- The default bank record (R15). -/
def BankRecord.default : BankRecord :=
  { a := 0, b := 0, kind := .mix, rate := 30, pattern := 0, direction := .normal, flip := false, softness := 0,
    borderWidth := 0, borderColour := .bkgd1, layers := 1, keyers := Vector.replicate 4 Keyer.default, phase := .idle,
    progress := 0, remaining := 0, sense := .normal, engagement := .free, bReady := 0, dwellEnd := 0, waiting := false,
    aborted := false, done := false }

/-- A bank after either reset (R15, R20, R39, R166). -/
def Bank.default : Bank :=
  { working := BankRecord.default, published := BankRecord.default, publishedFor := 1, stepMark := false,
    lever := none, updateDue := none, staging := none }

/-- A link at power-on with its PRESENT input at a level: DOWN, and measuring the 10 ms if PRESENT is asserted
(R112, R125). -/
def Link.atPowerOn (present : Bool) : Link :=
  { up := false, present := present, since := if present then some 0 else none, receiver := .hunting, takeQ := [],
    setupQ := [], holdOff := false, slot := none, tx := [], line := none, takeRun := 0, frameErrors := 0,
    overflow := 0 }

/-- A GPI line at power-on with its pin at a level (R172). -/
def GpiLine.atPowerOn (pin : Bool) : GpiLine :=
  { pin := pin, accepted := pin, timer := none, edge := false, dropped := false, driven := none }

/-- The default of each item by its number (R179). -/
def defaultItem (strapHigh : Bool) (number : Nat) : BitVec 16 :=
  if number = 1 then (if strapHigh then 8 else 2)
  else if number = 2 then 2
  else if number = 4 then 50
  else if number = 5 then 3000
  else if number = 6 then 4
  else if 8 ≤ number ∧ number ≤ 11 then 1
  else if 16 ≤ number ∧ number ≤ 39 then BitVec.ofNat 16 ((number - 16) / 6 + 1)
  else if 48 ≤ number ∧ number ≤ 53 then 255
  else if 64 ≤ number ∧ number ≤ 71 then 0x0015
  else 0

/-- The part at the moment of power-on (R182), with the strap sampled and the inputs at the levels given. The
configuration load job is active from the first moment, and its first read, of address 0, is already on the memory port,
though R159 has the port idle at power-on (R161, R171; assumption log 30). -/
def State.atPowerOn (pending : List Instr) (strapHigh : Bool) (present : Vector Bool 6) (pins : Vector Bool 8) : State :=
  { pending := pending
    now := 0
    strapHigh := strapHigh
    running := false
    cfgDefault := false
    items := tab fun i => defaultItem strapHigh i.val
    banks := Vector.replicate 4 Bank.default
    schedule := []
    nextSet := 0
    sweep := none
    claims := Vector.replicate 25 none
    links := tab fun l => Link.atPowerOn (pick present l)
    pointer := 5
    ref := { counter := 0, locked := false, period := Config.firstPeriod, spurious := 0, lastStart := 0,
             lastReal := false, deadline := Config.firstPeriod }
    table := none
    gathering := none
    paramPort := { line := none, waiting := [] }
    tallyPort := { line := none, waiting := [] }
    engine := { jobs := [.load], stage := some (.loading []), port := some { address := 0, data := none, raised := 0 } }
    lines := tab fun n => GpiLine.atPowerOn (pick pins n) }

/-- The machine right after reset: power-on with the BANKS strap high, every PRESENT input deasserted and every GPI
pin low (the levels of inputs are the model's choice: assumption log 6), and no command waiting. -/
def State.reset : State :=
  State.atPowerOn [] true (Vector.replicate 6 false) (Vector.replicate 8 false)

end Sys2Proof.Machine
end

