-- ==== Sys2Proof/Machine/Bytes.lean ====
section
/-! DEFINITION. Byte order, bit fields, the two CRCs (R115, R139, R169), and the coding of a byte on a line (R112, R146,
R157). -/

namespace Sys2Proof.Machine

/-- A value of `n` bytes, most significant byte first (R139). -/
def bigEndian : Nat → Nat → List Byte
  | 0, _ => []
  | n + 1, v => BitVec.ofNat 8 (v / 256 ^ n) :: bigEndian n v

/-- The value of bytes read most significant first (R139). -/
def fromBytes (bs : List Byte) : Nat := bs.foldl (fun v b => v * 256 + b.toNat) 0

/-- A flag at bit `i` of a byte (R139). -/
def flagBit (i : Nat) (b : Bool) : Nat := if b then 2 ^ i else 0

/-- One data bit into the CRC-16 register (R115). -/
def crc16Bit (r : BitVec 16) (bit : Bool) : BitVec 16 :=
  if r.msb == bit then r <<< 1 else (r <<< 1) ^^^ 0x1021#16

/-- One byte into the CRC-16 register, its most significant bit first (R115). -/
def crc16Byte (r : BitVec 16) (b : Byte) : BitVec 16 :=
  [7, 6, 5, 4, 3, 2, 1, 0].foldl (fun r i => crc16Bit r (b.getLsbD i)) r

/-- The CRC-16 of the panel links and the output ports (R115). -/
def crc16 (bs : List Byte) : BitVec 16 := bs.foldl crc16Byte 0xFFFF#16

/-- One data bit into the CRC-32 register (R169). -/
def crc32Bit (r : BitVec 32) (bit : Bool) : BitVec 32 :=
  if r.getLsbD 0 == bit then r >>> 1 else (r >>> 1) ^^^ 0xEDB88320#32

/-- One byte into the CRC-32 register, its least significant bit first (R169). -/
def crc32Byte (r : BitVec 32) (b : Byte) : BitVec 32 :=
  [0, 1, 2, 3, 4, 5, 6, 7].foldl (fun r i => crc32Bit r (b.getLsbD i)) r

/-- The CRC-32 of the effects memory (R169). -/
def crc32 (bs : List Byte) : BitVec 32 := bs.foldl crc32Byte 0xFFFFFFFF#32 ^^^ 0xFFFFFFFF#32

/-! ### Bytes on a line (R112, R146, R157) -/

/-- One bit time of an asynchronous line. -/
inductive LineBit where
  | start
  | data (bit : Bool)
  | stop
deriving DecidableEq, Repr

/-- A byte on a line: a start bit, the 8 data bits with the least significant first, and a stop bit (R146, R157; chapter
Panel Links, The line and PRESENT). -/
def byteOnLine (b : Byte) : List LineBit :=
  .start :: ([0, 1, 2, 3, 4, 5, 6, 7].map fun i => .data (b.getLsbD i)) ++ [.stop]

/-- Bytes on a line, one after another. -/
def bytesOnLine (bs : List Byte) : List LineBit := bs.flatMap byteOnLine

/-- The time that bits take on a line of a rate in bits a microsecond. -/
def lineTime (rate : Nat) (bits : List LineBit) : Micros := bits.length / rate

end Sys2Proof.Machine
end

