-- ==== Sys2Proof/Machine/Ops.lean ====
section
/-! DEFINITION. The shared operations on the state: the accessors and updates of its tables, the configuration items by
name, field-number comparison, enabled banks, the control elements, the re-entry relation, the flags and the placing of
frames, the change of claims with what it brings, and the clearing of lever registers. -/

namespace Sys2Proof.Machine

/-! ### Tables of the state -/

namespace State

/-- One bank. -/
def bank (s : State) (b : BankIx) : Bank := pick s.banks b
/-- The working copy of one bank's record (R12). -/
def working (s : State) (b : BankIx) : BankRecord := (s.bank b).working
/-- The published copy of one bank's record (R13). -/
def published (s : State) (b : BankIx) : BankRecord := (s.bank b).published
/-- One link. -/
def link (s : State) (l : LinkIx) : Link := pick s.links l
/-- One entry of the Claim Table. -/
def claim (s : State) (e : ElemIx) : Option Claim := pick s.claims e
/-- One GPI line. -/
def line (s : State) (n : LineIx) : GpiLine := pick s.lines n

/-- The state with one bank changed. -/
def modBank (s : State) (b : BankIx) (f : Bank → Bank) : State := { s with banks := upd s.banks b f }
/-- The state with one bank's working copy changed. -/
def modWorking (s : State) (b : BankIx) (f : BankRecord → BankRecord) : State :=
  s.modBank b fun k => { k with working := f k.working }
/-- The state with one link changed. -/
def modLink (s : State) (l : LinkIx) (f : Link → Link) : State := { s with links := upd s.links l f }
/-- The state with one GPI line changed. -/
def modLine (s : State) (n : LineIx) (f : GpiLine → GpiLine) : State := { s with lines := upd s.lines n f }

/-- `dt` microseconds pass. -/
def after (s : State) (dt : Micros) : State := { s with now := s.now + dt }
/-- Time passes to a moment, if it has not passed it already. -/
def reach (s : State) (moment : Micros) : State := { s with now := max s.now moment }

/-! ### Configuration items by name (R179) -/

/-- The 16-bit value an item holds; 0 for a number beyond the table. -/
def item (s : State) (number : Nat) : BitVec 16 := if h : number < 88 then pick s.items ⟨number, h⟩ else 0

/-- AIR_BANKS names bank `b` (R140). -/
def airBank (s : State) (b : BankIx) : Bool := (s.item 1).getLsbD b.val
/-- PREPARE_FIELDS. -/
def prepareFields (s : State) : Nat := (s.item 2).toNat
/-- COMMAND_LATENCY. -/
def commandLatency (s : State) : Nat := (s.item 3).toNat
/-- TOUCH_HOLD. -/
def touchHold (s : State) : Nat := (s.item 4).toNat
/-- CLAIM_AGING. -/
def claimAging (s : State) : Nat := (s.item 5).toNat
/-- TAKE_RATIO. -/
def takeRatio (s : State) : Nat := (s.item 6).toNat
/-- DWELL_FIELDS(b). -/
def dwellFields (s : State) (b : BankIx) : Nat := (s.item (8 + b.val)).toNat
/-- ELEMENT_GROUP(e). -/
def elementGroup (s : State) (e : ElemIx) : Nat := (s.item (16 + e.val)).toNat
/-- LINK_GROUPS(p) holds group `g`. -/
def linkInGroup (s : State) (p : LinkIx) (g : Nat) : Bool := (s.item (48 + p.val)).getLsbD g
/-- GPI_MODE(n). -/
def gpiMode (s : State) (n : LineIx) : BitVec 16 := s.item (64 + n.val)
/-- GPI_ARG(n). -/
def gpiArg (s : State) (n : LineIx) : BitVec 16 := s.item (72 + n.val)
/-- GPI_LEAD(n). -/
def gpiLead (s : State) (n : LineIx) : Nat := (s.item (80 + n.val)).toNat

end State

/-! ### Field numbers (R10, R75) -/

/-- N is at least X: N - X modulo 2^32 is below 2^31 (R10). -/
def atLeast (n x : FieldNo) : Bool := decide ((n - x).toNat < Config.halfRange)

/-- X lies 2^30 to 2^31 - 1 fields behind N (R10, R75). -/
def stale (n x : FieldNo) : Bool := decide (Config.staleAge ≤ (n - x).toNat) && atLeast n x

/-! ### Enabled banks and source codes (R1, R2, R4) -/

/-- Bank `b` is enabled under the strap (R4). -/
def enabledUnder (strapHigh : Bool) (b : BankIx) : Bool := strapHigh || decide (b.val < 2)

/-- Bank `b` is enabled (R4). -/
def State.enabled (s : State) (b : BankIx) : Bool := enabledUnder s.strapHigh b

/-- The code of bank `b`'s output, ME b (R1). -/
def meCode (b : BankIx) : Source := ⟨51 + b.val, by omega⟩

/-- The bank a code re-enters, if it is a re-entry code (R1). -/
def reentered (c : Source) : Option BankIx :=
  if h : 51 ≤ c.val then some ⟨c.val - 51, by omega⟩ else none

/-- A byte as a source code valid for the part (R2). -/
def validSource (strapHigh : Bool) (c : Byte) : Option Source :=
  if h : c.toNat < 55 then
    match reentered ⟨c.toNat, h⟩ with
    | some b => if enabledUnder strapHigh b then some ⟨c.toNat, h⟩ else none
    | none => some ⟨c.toNat, h⟩
  else none

/-! ### Layer sets (R5) -/

/-- BKGD is in the layer set. -/
def hasBkgd (set : LayerSet) : Bool := set.getLsbD 0
/-- Keyer `k` is in the layer set. -/
def hasKey (set : LayerSet) (k : KeyerIx) : Bool := set.getLsbD (k.val + 1)

/-- One keyer of a record. -/
def BankRecord.keyer (r : BankRecord) (k : KeyerIx) : Keyer := pick r.keyers k

/-- The record with one keyer changed. -/
def BankRecord.modKeyer (r : BankRecord) (k : KeyerIx) (f : Keyer → Keyer) : BankRecord :=
  { r with keyers := upd r.keyers k f }

/-! ### The re-entry relation (R17) -/

/-- The sources on all ten buses of a bank. -/
def BankRecord.buses (r : BankRecord) : List Source :=
  r.a :: r.b :: (indices 4).flatMap fun k => [(r.keyer k).fill, (r.keyer k).key]

/-- The banks whose output stands on some bus of a bank. -/
def BankRecord.reentries (r : BankRecord) : List BankIx := r.buses.filterMap reentered

/-- `b` is in the dependency closure of `c`, following at most `fuel` re-entries over the working copies (R17). -/
def reaches (banks : Vector Bank 4) : Nat → BankIx → BankIx → Bool
  | 0, c, b => c == b
  | fuel + 1, c, b => c == b || ((pick banks c).working.reentries.any fun d => reaches banks fuel d b)

/-- `b` is in the dependency closure of `c` (R17). Four banks have no path longer than three re-entries without
passing one of them twice. -/
def State.inClosure (s : State) (c b : BankIx) : Bool := reaches s.banks 4 c b

/-- Placing source `c` on a bus of `b` that holds `held` would close a loop (R17): an unchanged code and a code that
is no re-entry code are not tested. -/
def State.closesLoop (s : State) (b : BankIx) (held c : Source) : Bool :=
  c != held && (match reentered c with
    | some d => s.inClosure d b
    | none => false)

/-! ### Control elements (R94) -/

/-- Element b.BKGD. -/
def bkgdElement (b : BankIx) : ElemIx := ⟨b.val * 6, by omega⟩
/-- Element b.TRANS. -/
def transElement (b : BankIx) : ElemIx := ⟨b.val * 6 + 1, by omega⟩
/-- Element b.KEYk. -/
def keyElement (b : BankIx) (k : KeyerIx) : ElemIx := ⟨b.val * 6 + 2 + k.val, by omega⟩
/-- Element SYSTEM. -/
def systemElement : ElemIx := 24
/-- The six elements of a bank, in increasing number. -/
def bankElements (b : BankIx) : List ElemIx := bkgdElement b :: transElement b :: (indices 4).map (keyElement b)
/-- The elements a CLAIM-STATE report of a subject describes: a bank's six, or SYSTEM alone (R109). -/
def subjectElements : Option BankIx → List ElemIx
  | some b => bankElements b
  | none => [systemElement]
/-- The bank an element belongs to; SYSTEM belongs to none (R94). -/
def elementBank (e : ElemIx) : Option BankIx := if h : e.val < 24 then some ⟨e.val / 6, by omega⟩ else none

/-! ### The transmitter (R119 to R122) -/

/-- The report place a frame stands in: a bank's BANK-STATE, or a subject's CLAIM-STATE (R120). -/
def reportPlace : TxFrame → Option (Bool × Option BankIx)
  | .bankState b _ _ => some (true, some b)
  | .claimState subject _ => some (false, subject)
  | _ => none

/-- A frame placed in a transmit queue: at the tail, or in the place of the unsent report it replaces (R121, R122). -/
def placeIn (f : TxFrame) (tx : List TxFrame) : List TxFrame :=
  if (reportPlace f).isSome && tx.any (fun g => reportPlace g == reportPlace f) then
    tx.map fun g => if reportPlace g == reportPlace f then f else g
  else tx ++ [f]

/-- When the line of an UP link is free, the transmitter begins the slot's frame, or else the queue's head (R119,
R122). -/
def Link.kick (now : Micros) (k : Link) : Link :=
  if k.up && k.line.isNone then
    match k.slot, k.tx with
    | some f, _ => { k with slot := none, line := some (.flow f, now) }
    | none, f :: rest => { k with tx := rest, line := some (f, now) }
    | none, [] => k
  else k

/-- A frame destined for a link: placed if the link is UP, discarded if it is DOWN (R122). -/
def Link.place (now : Micros) (f : TxFrame) (k : Link) : Link :=
  if k.up then Link.kick now { k with tx := placeIn f k.tx } else k

/-- A flow-control frame into the slot; a frame waiting there is cancelled instead (R119). -/
def Link.flow (now : Micros) (f : Flow) (k : Link) : Link :=
  if k.slot.isSome then { k with slot := none } else Link.kick now { k with slot := some f }

/-- A frame placed on one link. -/
def State.send (s : State) (l : LinkIx) (f : TxFrame) : State := s.modLink l (Link.place s.now f)

/-- A report queued on every UP link. -/
def State.sendAll (s : State) (f : TxFrame) : State :=
  { s with links := tab fun l => Link.place s.now f (s.link l) }

/-- A NOTICE to the link of an origin; a GPI line is told nothing (R79, R133). -/
def State.notify (s : State) (o : Origin) (reason : Reason) (b : Option BankIx) : State :=
  { s with links := match o with
    | .link p tag => upd s.links p (Link.place s.now (.notice tag reason b))
    | .line _ => s.links }

/-! ### Promised places (R120) -/

/-- An origin is the link given. -/
def Origin.isLink (l : LinkIx) : Origin → Bool
  | .link p _ => p == l
  | .line _ => false

/-- A job holds a promise of the link given: a STORE or a SAVE-CONFIG of the link (R120). -/
def Job.promises (l : LinkIx) : Job → Bool
  | .store p _ _ _ _ => p == l
  | .save p _ => p == l
  | _ => false

/-- The promised places of a link: one for each of its schedule entries and each of its STORE and SAVE-CONFIG jobs
(R120). They are not stored: the entries and jobs are the promises. -/
def State.promised (s : State) (l : LinkIx) : Nat :=
  (s.schedule.filter fun e => e.origin.isLink l).length + (s.engine.jobs.filter (Job.promises l)).length

/-- The frames in a link's general places (R120). -/
def Link.generalFrames (k : Link) : Nat := (k.tx.filter fun f => (reportPlace f).isNone).length

/-- The uncommitted places of a link (R120). -/
def State.uncommitted (s : State) (l : LinkIx) : Nat :=
  Config.generalPlaces - ((s.link l).generalFrames + s.promised l)

/-! ### Lever registers (R39, R40) -/

/-- What the clearing of a bank's lever register does to its working copy (R40). -/
def BankRecord.leverCleared (r : BankRecord) : BankRecord :=
  match r.phase with
  | .idle => { r with engagement := .parked }
  | .lever => { r with phase := .paused, remaining := 0, engagement := .pickup }
  | .auto => { r with engagement := .pickup }
  | .paused => { r with engagement := .pickup }

/-- The clearing of a bank's lever register (R40). -/
def Bank.clearLever (k : Bank) : Bank := { k with lever := none, working := k.working.leverCleared }

/-- The clearing of the registers that a link last wrote (R40, R113). -/
def State.clearLeversOf (s : State) (l : LinkIx) : State :=
  { s with banks := tab fun b =>
      match (s.bank b).lever with
      | some r => if r.writer = l then (s.bank b).clearLever else s.bank b
      | none => s.bank b }

/-! ### The Claim Table (R97 to R109) -/

/-- What a change of an entry that is reported changes: its holder, kind or orphaned flag, but not its age (R109). -/
def claimFace (c : Option Claim) : Option (LinkIx × Bool × Bool) := c.map fun c => (c.holder, c.lock, c.orphaned)

/-- The holder of an entry. -/
def claimHolder (c : Option Claim) : Option LinkIx := c.map Claim.holder

/-- The CLAIM-STATE report of a subject (R109). -/
def claimReport (claims : Vector (Option Claim) 25) (subject : Option BankIx) : TxFrame :=
  .claimState subject ((subjectElements subject).map fun e => (e, pick claims e))

/-- The subjects in the order their reports are queued at one moment: the banks, then SYSTEM. -/
def subjects : List (Option BankIx) := (indices 4).map some ++ [none]

/-- The reports that a change of the Claim Table calls for (R109). -/
def claimReports (before now : Vector (Option Claim) 25) : List TxFrame :=
  (subjects.filter fun q => (subjectElements q).any fun e => claimFace (pick before e) != claimFace (pick now e)).map
    (claimReport now)

/-- The Claim Table becomes `claims`. A change of the holder of a TRANS element clears the bank's lever register
(R40, R100), and every change of an entry's holder, kind or orphaned flag is reported on every UP link (R109). -/
def State.setClaims (s : State) (claims : Vector (Option Claim) 25) : State :=
  { s with
    claims := claims
    banks := tab fun b =>
      if claimHolder (s.claim (transElement b)) = claimHolder (pick claims (transElement b)) then s.bank b
      else (s.bank b).clearLever
    links := tab fun l => (claimReports s.claims claims).foldl (fun k f => Link.place s.now f k) (s.link l) }

/-- The state with one entry of the Claim Table changed, with what the change brings. -/
def State.setClaim (s : State) (e : ElemIx) (c : Option Claim) : State := s.setClaims (upd s.claims e fun _ => c)

/-- Link `p` is a member of element `e`'s group (R96). -/
def State.member (s : State) (p : LinkIx) (e : ElemIx) : Bool := s.linkInGroup p (s.elementGroup e)

/-- Why an element refuses a request of link `p`, with the holder that stands in the way, or nothing if it passes
(R98). -/
def State.claimRefusal (s : State) (p : LinkIx) (e : ElemIx) : Option (Reason × Option LinkIx) :=
  if !s.member p e then some (.noGroup, none)
  else match s.claim e with
    | none => none
    | some c =>
      if c.holder = p then none
      else if c.lock then some (.locked, some c.holder)
      else if s.touchHold ≤ c.age then none
      else some (.held, some c.holder)

/-- The entry that use of an element by link `p` leaves (R98): its own claim stays of its kind, any other becomes its
TOUCH, and the age returns to 0. -/
def usedClaim (p : LinkIx) (old : Option Claim) : Claim :=
  match old with
  | some c => if c.holder = p then { c with age := 0 } else { holder := p, lock := false, age := 0, orphaned := false }
  | none => { holder := p, lock := false, age := 0, orphaned := false }

/-- The Claim Table after link `p` has used elements (R100). -/
def usedClaims (p : LinkIx) (es : List ElemIx) (claims : Vector (Option Claim) 25) : Vector (Option Claim) 25 :=
  tab fun e => if es.contains e then some (usedClaim p (pick claims e)) else pick claims e

/-- Link `p` uses elements (R100). -/
def State.useElements (s : State) (p : LinkIx) (es : List ElemIx) : State :=
  s.setClaims (usedClaims p es s.claims)

/-- The first refusal among elements, in the order given (R99). -/
def State.elementsRefusal (s : State) (p : LinkIx) (es : List ElemIx) : Option (Reason × Option LinkIx) :=
  es.findSome? (s.claimRefusal p)

/-- The Claim Table after a field start's aging (R105). -/
def agedClaims (aging : Nat) (claims : Vector (Option Claim) 25) : Vector (Option Claim) 25 :=
  tab fun e =>
    match pick claims e with
    | none => none
    | some c =>
      let age := min (c.age + 1) Config.countLimit
      if !c.lock && decide (0 < aging) && decide (aging ≤ age) then none else some { c with age := age }

/-- The Claim Table after link `p` has gone DOWN: its touches emptied, its locks orphaned (R106). -/
def orphanedClaims (p : LinkIx) (claims : Vector (Option Claim) 25) : Vector (Option Claim) 25 :=
  tab fun e =>
    match pick claims e with
    | none => none
    | some c => if c.holder = p then (if c.lock then some { c with orphaned := true } else none) else some c

/-- The Claim Table after link `p` has come UP: its locks restored (R106). -/
def restoredClaims (p : LinkIx) (claims : Vector (Option Claim) 25) : Vector (Option Claim) 25 :=
  tab fun e =>
    match pick claims e with
    | none => none
    | some c => if c.holder = p then some { c with orphaned := false } else some c

/-- The Claim Table with every entry emptied whose holder is no longer a member of its element's group (R107). -/
def State.prunedClaims (s : State) : Vector (Option Claim) 25 :=
  tab fun e =>
    match s.claim e with
    | none => none
    | some c => if s.member c.holder e then some c else none

/-- What the loss of a link does to the lever registers and the Claim Table (R106, R113). -/
def State.linkLost (s : State) (l : LinkIx) : State :=
  (s.clearLeversOf l).setClaims (orphanedClaims l s.claims)

end Sys2Proof.Machine
end

