-- ==== Sys2Proof/Machine/Flags.lean ====
section
/-! DEFINITION. The tests and marks computed from a bank record: readiness (R22, R23), the rewriting of stale values
(R10), the per-field flags (R11), the wipe marks (R38), the background mark and REVERSE (R57, R61), key levels (R37). -/

namespace Sys2Proof.Machine

/-- A keyer's slots are settled at N: its fill, and for LINEAR its key (R22, R23). -/
def Keyer.ready (n : FieldNo) (k : Keyer) : Bool :=
  atLeast n k.fillReady && (k.kind == .luma || atLeast n k.keyReady)

/-- The key readiness test of keyer `k` at N (R23). -/
def BankRecord.keyReadyTest (r : BankRecord) (n : FieldNo) (k : KeyerIx) : Bool := (r.keyer k).ready n

/-- The start test at N (R22). -/
def BankRecord.startTest (r : BankRecord) (n : FieldNo) : Bool :=
  atLeast n r.dwellEnd && (!hasBkgd r.layers || atLeast n r.bReady) &&
    (indices 4).all fun k => !hasKey r.layers k || (r.keyer k).onAir || (r.keyer k).ready n

/-- A value so far behind N that it is rewritten to N (R10). -/
def refreshed (n x : FieldNo) : FieldNo := if stale n x then n else x

/-- The rewriting of stale ready fields and of a stale dwell-end field at publication for N (R10). -/
def BankRecord.refresh (r : BankRecord) (n : FieldNo) : BankRecord :=
  { r with
    bReady := refreshed n r.bReady
    dwellEnd := refreshed n r.dwellEnd
    keyers := tab fun k => { r.keyer k with fillReady := refreshed n (r.keyer k).fillReady
                                            keyReady := refreshed n (r.keyer k).keyReady } }

/-- The record with the three per-field flags clear (R11). -/
def BankRecord.clearFlags (r : BankRecord) : BankRecord := { r with waiting := false, aborted := false, done := false }

/-- A copy carries one of the three flags (R11). -/
def BankRecord.flagged (r : BankRecord) : Bool := r.waiting || r.aborted || r.done

/-- The bank is RUNNING: AUTO, LEVER or PAUSED (R141, R147). -/
def BankRecord.isRunning (r : BankRecord) : Bool := r.phase != .idle

/-- The level of an ON or OFF keyer outside a transition (R37). -/
def idleLevel (on : Bool) : Nat := if on then Config.whole else 0

/-- Keyer `k`'s level (R37). -/
def BankRecord.levelOf (r : BankRecord) (k : KeyerIx) : Nat :=
  if hasKey r.layers k && r.isRunning && r.kind == .mix then
    (if (r.keyer k).onAir then Config.whole - r.progress else r.progress)
  else idleLevel (r.keyer k).onAir

/-- The record with its keyer levels set (R37). -/
def BankRecord.setLevels (r : BankRecord) : BankRecord :=
  { r with keyers := tab fun k => { r.keyer k with level := r.levelOf k } }

/-- Keyer `k`'s wipe mark (R38). -/
def BankRecord.wipeMark (r : BankRecord) (k : KeyerIx) : WipeMark :=
  if hasKey r.layers k && r.isRunning && r.kind == .wipe then
    (if (r.keyer k).onAir then .wipedOff else .wipedOn)
  else .none

/-- The background mark is WIPED (R57). -/
def BankRecord.backgroundWiped (r : BankRecord) : Bool := r.isRunning && r.kind == .wipe && hasBkgd r.layers

/-- The REVERSE flag (R61). -/
def BankRecord.reverseFlag (r : BankRecord) : Bool :=
  match r.direction with
  | .normal => false
  | .reverse => true
  | .flipflop => r.flip

end Sys2Proof.Machine
end

