-- ==== Sys2Proof/Machine/Arithmetic.lean ====
section
/-! DEFINITION. Transition arithmetic (R50 to R62): the auto step, the remaining fields, the lever mapping and the terms
of the field parameter record. -/

namespace Sys2Proof.Machine

/-- Round half up of a/b (R50). -/
def roundHalfUp (a b : Nat) : Nat := (2 * a + b) / (2 * b)

/-- The auto step from progress P with R fields remaining (R51). -/
def autoStepSize (progress remaining : Nat) : Nat := roundHalfUp (Config.whole - progress) remaining

/-- The remaining fields recomputed from P and the rate D: the ceiling of D × (4096 - P) / 4096, at least 1 (R53). -/
def recomputed (rate progress : Nat) : Nat :=
  max 1 ((rate * (Config.whole - progress) + (Config.whole - 1)) / Config.whole)

/-- The mapped position of a lever position (R54). -/
def leverMap (position : Nat) : Nat :=
  if position ≤ 8 then 0
  else if 1014 ≤ position then Config.whole
  else ((position - 8) * Config.whole + 503) / 1006

/-- The lever value V of a position under a sense (R41, R55). -/
def leverValue (sense : Sense) (position : Nat) : Nat :=
  match sense with
  | .normal => leverMap position
  | .inverted => Config.whole - leverMap position

/-- The mix coefficient M (R57). -/
def BankRecord.mixTerm (r : BankRecord) : Nat :=
  if r.isRunning && r.kind == .mix && hasBkgd r.layers then r.progress else 0

/-- The wipe edge width E (R58). -/
def edgeWidth (softness : Nat) : Nat := 4 * softness

/-- The soft slope S (R58). -/
def softSlope (softness : Nat) : Nat := if edgeWidth softness = 0 then 0 else 65536 / edgeWidth softness

/-- The lower threshold Tlo (R59). -/
def lowerThreshold (progress softness : Nat) : Int :=
  ((progress * (Config.whole + edgeWidth softness) / Config.whole : Nat) : Int) - (edgeWidth softness : Int)

/-- The border band width Wb (R60). -/
def borderBand (progress borderWidth : Nat) : Nat := if progress = 0 then 0 else 4 * borderWidth

/-- The lift Kl of a clip (R62). -/
def keyLift (clip : Nat) : Nat := 4 * clip

/-- The slope Ks of a gain (R62). -/
def keySlope (gain : Nat) : Nat := 64 + 4 * gain

/-- The field parameter record of a bank for N, from the copy just published (R56, R156). -/
def paramRecord (b : BankIx) (n : FieldNo) (r : BankRecord) : ParamRecord :=
  { field := n
    bank := b
    a := r.a
    b := r.b
    phase := r.phase
    kind := r.kind
    reverse := r.reverseFlag
    wiped := r.backgroundWiped
    pattern := r.pattern
    borderColour := r.borderColour
    mix := r.mixTerm
    tlo := lowerThreshold r.progress r.softness
    edge := edgeWidth r.softness
    slope := softSlope r.softness
    border := borderBand r.progress r.borderWidth
    keyers := tab fun k =>
      { fill := (r.keyer k).fill
        key := (r.keyer k).key
        kind := (r.keyer k).kind
        invert := (r.keyer k).invert
        mark := r.wipeMark k
        lift := keyLift (r.keyer k).clip
        slope := keySlope (r.keyer k).gain
        level := (r.keyer k).level } }

end Sys2Proof.Machine
end

