-- ==== Sys2Proof/Machine/Controller.lean ====
section
/-! DEFINITION. The Transition Controller (R19 to R49): completion, the auto step, the judgement and the performing of
each action, the lever engagement, and the work of a field update up to publication. -/

namespace Sys2Proof.Machine

/-- The other lever sense (R36, R43). -/
def Sense.flipped : Sense → Sense
  | .normal => .inverted
  | .inverted => .normal

/-- A field number some fields on, modulo 2^32. -/
def fieldsOn (n : FieldNo) (k : Nat) : FieldNo := n + BitVec.ofNat 32 k

/-- The completion of a transition at N (R36), by the lever or by a CUT or an auto step. -/
def BankRecord.complete (r : BankRecord) (n : FieldNo) (dwell : Nat) (byLever : Bool) : BankRecord :=
  { r with
    a := if hasBkgd r.layers then r.b else r.a
    b := if hasBkgd r.layers then r.a else r.b
    bReady := if hasBkgd r.layers then n else r.bReady
    keyers := tab fun k =>
      if hasKey r.layers k then
        { r.keyer k with onAir := !(r.keyer k).onAir, level := idleLevel (!(r.keyer k).onAir) }
      else r.keyer k
    flip := if r.direction = .flipflop then !r.flip else r.flip
    phase := .idle
    progress := 0
    remaining := 0
    dwellEnd := fieldsOn n (1 + dwell)
    done := true
    sense := if byLever then r.sense.flipped else r.sense
    engagement := if byLever then .free else .parked }

/-- The auto step at N, with the completion it may bring (R51). -/
def BankRecord.autoStep (r : BankRecord) (n : FieldNo) (dwell : Nat) : BankRecord :=
  let p := r.progress + autoStepSize r.progress r.remaining
  if Config.whole ≤ p then r.complete n dwell false
  else BankRecord.setLevels { r with progress := p, remaining := r.remaining - 1 }

/-! ### Judging an action (R21) -/

/-- The controller's judgement of an action (R21): refuse with a reason, hold back, or go ahead with the number of
crosspoint changes and the notice, if any, with which it will be performed. -/
inductive Judgement where
  | refuse (reason : Reason)
  | holdBack
  | goAhead (count : Nat) (note : Option Reason)
deriving DecidableEq, Repr

/-- A selected value differs from the one held (R31, R32). -/
def changes {α : Type} [DecidableEq α] (selected : Option α) (held : α) : Bool :=
  match selected with
  | some v => decide (v ≠ held)
  | none => false

/-- One crosspoint change, or none (R81). -/
def oneIf (c : Bool) : Nat := if c then 1 else 0

/-- A CUT or AUTO on an IDLE bank (R24, R25); `marked` is the step mark, which holds back an AUTO alone. -/
def BankRecord.judgeTake (r : BankRecord) (n : FieldNo) (marked : Bool) : Judgement :=
  if r.layers = 0 then .refuse .nothing
  else if !r.startTest n || marked then .holdBack
  else .goAhead 0 none

/-- The judgement of a CUT (R24). -/
def BankRecord.judgeCut (r : BankRecord) (n : FieldNo) : Judgement :=
  match r.phase with
  | .idle => r.judgeTake n false
  | _ => .goAhead 0 none

/-- The judgement of an AUTO (R25, R26). -/
def BankRecord.judgeAuto (r : BankRecord) (n : FieldNo) (marked : Bool) : Judgement :=
  match r.phase with
  | .idle => r.judgeTake n marked
  | .auto => .goAhead 0 (some .duplicate)
  | _ => .goAhead 0 none

/-- The judgement of a HOLD (R27). -/
def BankRecord.judgeHold (r : BankRecord) : Judgement :=
  match r.phase with
  | .auto => .goAhead 0 none
  | _ => .goAhead 0 (some .ignored)

/-- The judgement of a KEY-CUT (R28). -/
def BankRecord.judgeKeyCut (r : BankRecord) (n : FieldNo) (k : KeyerIx) (on : Bool) : Judgement :=
  if hasKey r.layers k && r.isRunning then .refuse .busy
  else if on && !(r.keyer k).onAir && !r.keyReadyTest n k then .holdBack
  else .goAhead 0 none

/-- The judgement of a SELECT (R29, R30). -/
def State.judgeSelect (s : State) (b : BankIx) (bus : Bus) (source : Source) : Judgement :=
  let r := s.working b
  match bus with
  | .a => if s.closesLoop b r.a source then .refuse .loop else .goAhead (oneIf (source != r.a)) none
  | .b =>
    if r.isRunning && hasBkgd r.layers then .refuse .busy
    else if s.closesLoop b r.b source then .refuse .loop
    else .goAhead (oneIf (source != r.b)) none

/-- A selected source would close a loop (R31). -/
def State.selectedCloses (s : State) (b : BankIx) (held : Source) (selected : Option Source) : Bool :=
  match selected with
  | some c => s.closesLoop b held c
  | none => false

/-- The judgement of a KEY-SETUP (R31). -/
def State.judgeKeySetup (s : State) (b : BankIx) (k : KeyerIx) (f : KeyFields) : Judgement :=
  let r := s.working b
  let y := r.keyer k
  if hasKey r.layers k && r.isRunning && (changes f.fill y.fill || changes f.key y.key || changes f.kind y.kind) then
    .refuse .busy
  else if s.selectedCloses b y.fill f.fill || s.selectedCloses b y.key f.key then .refuse .loop
  else .goAhead (oneIf (changes f.fill y.fill) + oneIf (changes f.key y.key)) none

/-- The judgement of a TRANS-SETUP (R32). -/
def BankRecord.judgeTransSetup (r : BankRecord) (f : TransFields) : Judgement :=
  if r.isRunning && (changes f.kind r.kind || changes f.pattern r.pattern || changes f.direction r.direction) then
    .refuse .busy
  else .goAhead 0 none

/-- The judgement of a LAYERS (R33). -/
def BankRecord.judgeLayers (r : BankRecord) : Judgement :=
  if r.isRunning then .refuse .busy else .goAhead 0 none

/-- The assignments a staged record makes: each bus's source now and the source it would take. A keyer not listed
assigns nothing (R34). -/
def recallAssignments (r : BankRecord) (e : Effect) : List (Source × Source) :=
  (r.a, e.a) :: (r.b, e.b) :: (indices 4).flatMap fun k =>
    match pick e.keyers k with
    | some y => [((r.keyer k).fill, y.fill), ((r.keyer k).key, y.key)]
    | none => []

/-- The judgement of a RECALL with the record in its bank's staging (R18, R34). A RECALL is presented only once it is
STAGED (R77), so a record is always in hand. -/
def State.judgeRecall (s : State) (b : BankIx) : Judgement :=
  match (s.bank b).staging with
  | none => .holdBack
  | some e =>
    let moves := recallAssignments (s.working b) e
    if moves.any fun m => s.closesLoop b m.1 m.2 then .refuse .loop
    else .goAhead (moves.filter fun m => m.1 != m.2).length none

/-- The judgement of an action for bank `b` at target field N against the working copies as they stand (R21). -/
def State.judge (s : State) (b : BankIx) (action : Action) (n : FieldNo) : Judgement :=
  match action with
  | .select bus source => s.judgeSelect b bus source
  | .cut => (s.working b).judgeCut n
  | .auto => (s.working b).judgeAuto n (s.bank b).stepMark
  | .hold => (s.working b).judgeHold
  | .keyCut k on => (s.working b).judgeKeyCut n k on
  | .keySetup k f => s.judgeKeySetup b k f
  | .transSetup f => (s.working b).judgeTransSetup f
  | .layers _ => (s.working b).judgeLayers
  | .recallEffect _ _ => s.judgeRecall b

/-! ### Performing an action -/

/-- SELECT performed (R29, R30, R8). -/
def BankRecord.select (r : BankRecord) (n : FieldNo) (prepare : Nat) (bus : Bus) (source : Source) : BankRecord :=
  match bus with
  | .a => { r with a := source }
  | .b => { r with b := source, bReady := if source = r.b then r.bReady else fieldsOn n prepare }

/-- HOLD performed (R27). -/
def BankRecord.hold (r : BankRecord) : BankRecord :=
  match r.phase with
  | .auto => { r with phase := .paused, remaining := 0, engagement := .pickup }
  | _ => r

/-- KEY-CUT performed (R28): on or off for a keyer already so changes nothing. -/
def BankRecord.keyCut (r : BankRecord) (k : KeyerIx) (on : Bool) : BankRecord :=
  if (r.keyer k).onAir = on then r
  else r.modKeyer k fun y => { y with onAir := on, level := idleLevel on }

/-- The ready field of a slot whose source may change (R8). -/
def slotReady (n : FieldNo) (prepare : Nat) (selected : Option Source) (held : Source) (ready : FieldNo) : FieldNo :=
  if changes selected held then fieldsOn n prepare else ready

/-- KEY-SETUP performed (R31). -/
def BankRecord.keySetup (r : BankRecord) (n : FieldNo) (prepare : Nat) (k : KeyerIx) (f : KeyFields) : BankRecord :=
  r.modKeyer k fun y =>
    { y with
      fill := f.fill.getD y.fill
      key := f.key.getD y.key
      kind := f.kind.getD y.kind
      clip := f.clip.getD y.clip
      gain := f.gain.getD y.gain
      invert := f.invert.getD y.invert
      fillReady := slotReady n prepare f.fill y.fill y.fillReady
      keyReady := slotReady n prepare f.key y.key y.keyReady }

/-- TRANS-SETUP performed, with the recomputation of R when the rate of an AUTO bank changes (R32, R53). -/
def BankRecord.transSetup (r : BankRecord) (f : TransFields) : BankRecord :=
  { r with
    kind := f.kind.getD r.kind
    rate := f.rate.getD r.rate
    pattern := f.pattern.getD r.pattern
    direction := f.direction.getD r.direction
    softness := f.softness.getD r.softness
    borderWidth := f.borderWidth.getD r.borderWidth
    borderColour := f.borderColour.getD r.borderColour
    remaining := if r.phase = .auto ∧ changes f.rate r.rate then recomputed (f.rate.getD r.rate) r.progress
                 else r.remaining }

/-- The abort of a running transition before a recall (R34). -/
def BankRecord.abort (r : BankRecord) : BankRecord :=
  if r.isRunning then
    BankRecord.setLevels { r with phase := .idle, progress := 0, remaining := 0, aborted := true }
  else r

/-- A keyer after a recall: listed, or not (R35). -/
def Keyer.recalled (y : Keyer) (n : FieldNo) (prepare : Nat) (e : Option EffectKeyer) : Keyer :=
  match e with
  | some e =>
    { fill := e.fill, key := e.key, kind := e.kind, clip := e.clip, gain := e.gain, invert := e.invert,
      onAir := e.onAir, level := idleLevel e.onAir,
      fillReady := slotReady n prepare (some e.fill) y.fill y.fillReady
      keyReady := slotReady n prepare (some e.key) y.key y.keyReady }
  | none => { y with onAir := false, level := 0 }

/-- A staged record applied to an IDLE bank (R35). -/
def BankRecord.applyEffect (r : BankRecord) (n : FieldNo) (prepare : Nat) (e : Effect) : BankRecord :=
  { r with
    a := e.a
    b := e.b
    bReady := slotReady n prepare (some e.b) r.b r.bReady
    kind := e.kind
    rate := e.rate
    pattern := e.pattern
    direction := e.direction
    softness := e.softness
    borderWidth := e.borderWidth
    borderColour := e.borderColour
    layers := e.layers
    keyers := tab fun k => (r.keyer k).recalled n prepare (pick e.keyers k)
    engagement := .parked }

/-- An AUTO performed on a bank (R25, R26): from IDLE it starts the run and takes its first step, which sets the step
mark; in AUTO it changes nothing; in LEVER and PAUSED it resumes. -/
def Bank.auto (k : Bank) (n : FieldNo) (dwell : Nat) : Bank :=
  let r := k.working
  match r.phase with
  | .idle =>
    { k with
      working := BankRecord.autoStep { r with phase := .auto, remaining := r.rate, engagement := .pickup } n dwell
      stepMark := true }
  | .auto => k
  | .lever | .paused =>
    { k with working := { r with phase := .auto, engagement := .pickup, remaining := recomputed r.rate r.progress } }

/-- An action judged go ahead, performed on its bank at target field N, with the DWELL_FIELDS and PREPARE_FIELDS that
stand (R21, R24 to R35). A RECALL takes the record out of staging (R166). -/
def Bank.perform (k : Bank) (action : Action) (n : FieldNo) (dwell prepare : Nat) : Bank :=
  match action with
  | .select bus source => { k with working := k.working.select n prepare bus source }
  | .cut => { k with working := k.working.complete n dwell false }
  | .auto => k.auto n dwell
  | .hold => { k with working := k.working.hold }
  | .keyCut y on => { k with working := k.working.keyCut y on }
  | .keySetup y f => { k with working := k.working.keySetup n prepare y f }
  | .transSetup f => { k with working := k.working.transSetup f }
  | .layers set => { k with working := { k.working with layers := set } }
  | .recallEffect _ _ =>
    match k.staging with
    | some e => { k with working := k.working.abort.applyEffect n prepare e, staging := none }
    | none => k

/-- An action performed on bank `b` (R80). -/
def State.perform (s : State) (b : BankIx) (action : Action) (n : FieldNo) : State :=
  { s with banks := upd s.banks b fun k => k.perform action n (s.dwellFields b) s.prepareFields }

/-! ### The lever (R42 to R46) -/

/-- The withdrawal of a transition by the lever at V = 0 (R44). -/
def BankRecord.withdraw (r : BankRecord) : BankRecord :=
  BankRecord.setLevels { r with phase := .idle, progress := 0, remaining := 0, engagement := .free }

/-- The lever drives the bank to V: completion at 4096, withdrawal at 0, and otherwise LEVER at V (R42, R44, R46). -/
def BankRecord.follow (r : BankRecord) (n : FieldNo) (dwell v : Nat) : BankRecord :=
  if Config.whole ≤ v then r.complete n dwell true
  else if v = 0 then r.withdraw
  else { r with phase := .lever, engagement := .following, remaining := 0, progress := v }

/-- An IDLE bank with engagement PARKED (R43). -/
def BankRecord.unpark (r : BankRecord) (v : Nat) : BankRecord :=
  if v = 0 then { r with engagement := .free }
  else if Config.whole ≤ v then { r with engagement := .free, sense := r.sense.flipped }
  else r

/-- An IDLE bank with engagement FREE (R42). -/
def BankRecord.leverStart (r : BankRecord) (n : FieldNo) (dwell v : Nat) : BankRecord :=
  if 0 < v ∧ r.layers ≠ 0 ∧ r.startTest n then r.follow n dwell v else r

/-- A bank in AUTO or PAUSED, whose lever waits to pick the transition up (R45, R46). -/
def BankRecord.pickUp (r : BankRecord) (n : FieldNo) (dwell v : Nat) : BankRecord :=
  match r.engagement with
  | .pickup =>
    if v < r.progress then { r with engagement := .pickupBelow }
    else if r.progress < v then { r with engagement := .pickupAbove }
    else { r with phase := .lever, engagement := .following, remaining := 0 }
  | .pickupBelow => if r.progress ≤ v then r.follow n dwell v else r
  | .pickupAbove => if v ≤ r.progress then r.follow n dwell v else r
  | _ => r

/-- The engagement rule that the bank's state and engagement call for, applied once to a reading V (R42 to R47). -/
def BankRecord.engage (r : BankRecord) (n : FieldNo) (dwell v : Nat) : BankRecord :=
  match r.phase with
  | .idle =>
    match r.engagement with
    | .free => r.leverStart n dwell v
    | .parked => r.unpark v
    | _ => r
  | .lever => if r.engagement = .following then r.follow n dwell v else r
  | .auto => r.pickUp n dwell v
  | .paused => r.pickUp n dwell v

/-! ### The field update (R47) -/

/-- Step 1 of the field update: the auto step, if the bank is in AUTO and the step mark is clear (R47). -/
def Bank.stepAuto (k : Bank) (n : FieldNo) (dwell : Nat) : BankRecord :=
  if k.working.phase = .auto ∧ k.stepMark = false then k.working.autoStep n dwell else k.working

/-- Step 2 of the field update: the engagement rule, if the lever register holds a position (R41, R47). -/
def BankRecord.readLever (r : BankRecord) (lever : Option LeverReading) (n : FieldNo) (dwell : Nat) : BankRecord :=
  match lever with
  | some reading => r.engage n dwell (leverValue r.sense reading.position)
  | none => r

/-- Steps 1 to 3 of the field update, and the rewriting of stale values at publication (R47, R13). -/
def Bank.brought (k : Bank) (n : FieldNo) (dwell : Nat) : BankRecord :=
  (((k.stepAuto n dwell).readLever k.lever n dwell).setLevels).refresh n

/-- The bank published for N: the published copy replaced, the flags of the working copy and the step mark cleared
(R13, R48). -/
def Bank.publish (k : Bank) (n : FieldNo) (dwell : Nat) : Bank :=
  let r := k.brought n dwell
  { k with published := r, publishedFor := n, working := r.clearFlags, stepMark := false, updateDue := none }

/-- Publishing calls for a BANK-STATE report: the copy differs from the one replaced or carries a flag (R13, R48). -/
def reportDue (old new : BankRecord) : Bool := decide (new ≠ old) || new.flagged

end Sys2Proof.Machine
end

