-- ==== Sys2Proof/Machine/Layouts.lean ====
section
/-! DEFINITION. The byte layouts of what the part sends (R139, Layouts): frames for the panels, field parameter records
and tally frames. A value wider than its field in the layout keeps its low bits (assumption log 20), and a bit that the
layout does not list is sent as 0 (assumption log 33). -/

namespace Sys2Proof.Machine

/-! ### Codes (R139) -/

/-- The code of a kind. -/
def Kind.code : Kind → Nat
  | .mix => 0
  | .wipe => 1

/-- The code of a direction. -/
def Direction.code : Direction → Nat
  | .normal => 0
  | .reverse => 1
  | .flipflop => 2

/-- The code of a border colour. -/
def BorderColour.code : BorderColour → Nat
  | .bkgd1 => 0
  | .bkgd2 => 1

/-- The source code of a border colour (R60). -/
def BorderColour.source : BorderColour → Nat
  | .bkgd1 => 49
  | .bkgd2 => 50

/-- The code of a keyer type. -/
def KeyerType.code : KeyerType → Nat
  | .luma => 0
  | .linear => 1

/-- The code of a controller state. -/
def Phase.code : Phase → Nat
  | .idle => 0
  | .auto => 1
  | .lever => 2
  | .paused => 3

/-- The code of an engagement. -/
def Engagement.code : Engagement → Nat
  | .free => 0
  | .following => 1
  | .pickup => 2
  | .pickupBelow => 3
  | .pickupAbove => 4
  | .parked => 5

/-- The code of a wipe mark. -/
def WipeMark.code : WipeMark → Nat
  | .none => 0
  | .wipedOn => 1
  | .wipedOff => 2

/-- The code of a reason. -/
def Reason.code : Reason → Nat
  | .badType => 0x01
  | .badLength => 0x02
  | .badBank => 0x03
  | .badSource => 0x04
  | .badValue => 0x05
  | .loop => 0x06
  | .noGroup => 0x07
  | .held => 0x08
  | .locked => 0x09
  | .notHolder => 0x0A
  | .notLocked => 0x0B
  | .listFull => 0x0C
  | .memBusy => 0x0D
  | .notFound => 0x0E
  | .queueFull => 0x0F
  | .busy => 0x10
  | .nothing => 0x11
  | .duplicate => 0x12
  | .ignored => 0x13
  | .superseded => 0x14
  | .emptyReg => 0x15
  | .badRecord => 0x16
  | .memFault => 0x17
  | .done => 0x18

/-- The type code of the request that makes an action. -/
def Action.code : Action → Nat
  | .select _ _ => 0x01
  | .cut => 0x02
  | .auto => 0x03
  | .hold => 0x04
  | .keyCut _ _ => 0x06
  | .keySetup _ _ => 0x07
  | .transSetup _ => 0x08
  | .layers _ => 0x09
  | .recallEffect _ _ => 0x0D

/-- A bank's number, 1 to 4, or 0 for none. -/
def bankNumber : Option BankIx → Nat
  | some b => b.val + 1
  | none => 0

/-- A link's number, or FFh for NONE. -/
def linkNumber : Option LinkIx → Nat
  | some l => l.val
  | none => 0xFF

/-! ### Replies and reports -/

/-- A selected value, or 0 for one the mask leaves out (R131). -/
def selected (v : Option Nat) : Nat := v.getD 0

/-- A KEY-SETUP's mask and values as stored (R131, R139). -/
def KeyFields.bytes (f : KeyFields) : List Byte :=
  bigEndian 1 (flagBit 0 f.fill.isSome + flagBit 1 f.key.isSome + flagBit 2 f.kind.isSome + flagBit 3 f.clip.isSome +
      flagBit 4 f.gain.isSome + flagBit 5 f.invert.isSome) ++
    bigEndian 1 (selected (f.fill.map Fin.val)) ++ bigEndian 1 (selected (f.key.map Fin.val)) ++
    bigEndian 1 (selected (f.kind.map KeyerType.code)) ++ bigEndian 2 (selected f.clip) ++
    bigEndian 2 (selected f.gain) ++ bigEndian 1 (selected (f.invert.map (flagBit 0)))

/-- A TRANS-SETUP's mask and values as stored (R131, R139). -/
def TransFields.bytes (f : TransFields) : List Byte :=
  bigEndian 1 (flagBit 0 f.kind.isSome + flagBit 1 f.rate.isSome + flagBit 2 f.pattern.isSome +
      flagBit 3 f.direction.isSome + flagBit 4 f.softness.isSome + flagBit 5 f.borderWidth.isSome +
      flagBit 6 f.borderColour.isSome) ++
    bigEndian 1 (selected (f.kind.map Kind.code)) ++ bigEndian 2 (selected f.rate) ++
    bigEndian 1 (selected f.pattern) ++ bigEndian 1 (selected (f.direction.map Direction.code)) ++
    bigEndian 1 (selected f.softness) ++ bigEndian 1 (selected f.borderWidth) ++
    bigEndian 1 (selected (f.borderColour.map BorderColour.code))

/-- What an ACCEPT carries after the answered type (R131). -/
def Accepted.bytes : Accepted → List Byte
  | .due d => bigEndian 4 d.toNat
  | .dueKey d f => bigEndian 4 d.toNat ++ f.bytes
  | .dueTrans d f => bigEndian 4 d.toNat ++ f.bytes
  | .element e => bigEndian 1 e.val
  | .count n => bigEndian 1 n
  | .item number value => bigEndian 1 number ++ bigEndian 2 value.toNat
  | .register r => bigEndian 1 r
  | .plain => []

/-- The number of fields by which X lies after N, 0 if it is at or before N (R135). -/
def wait (n x : FieldNo) : Nat := if atLeast n x then 0 else (x - n).toNat

/-- The nine ready fields in the slot order of R8. -/
def BankRecord.readyFields (r : BankRecord) : List FieldNo :=
  r.bReady :: (indices 4).flatMap fun k => [(r.keyer k).fillReady, (r.keyer k).keyReady]

/-- The readiness of a bank as BANK-STATE carries it (R135, R139): three bits a slot, and the dwell wait. -/
def BankRecord.readiness (r : BankRecord) (n : FieldNo) : Nat :=
  ((r.readyFields.map fun x => wait n x % 8).foldr (fun w v => w + 8 * v) 0) + (wait n r.dwellEnd % 32) * 2 ^ 27

/-- Keyer `k` as BANK-STATE carries it (R139). -/
def Keyer.bytes (k : Keyer) : List Byte :=
  bigEndian 1 k.fill.val ++ bigEndian 1 k.key.val ++
    bigEndian 1 (k.kind.code + flagBit 1 k.invert + flagBit 2 k.onAir) ++ bigEndian 2 k.clip ++ bigEndian 2 k.gain

/-- The BANK-STATE body (R135, R139). -/
def bankStateBody (b : BankIx) (n : FieldNo) (r : BankRecord) : List Byte :=
  bigEndian 4 n.toNat ++ bigEndian 1 (b.val + 1) ++ bigEndian 1 r.a.val ++ bigEndian 1 r.b.val ++
    bigEndian 1 (r.kind.code + 2 * r.direction.code + flagBit 3 r.flip + 16 * r.borderColour.code) ++
    bigEndian 1 r.pattern ++ bigEndian 2 r.rate ++ bigEndian 1 r.softness ++ bigEndian 1 r.borderWidth ++
    bigEndian 1 r.layers.toNat ++
    bigEndian 1 (r.phase.code + 4 * r.engagement.code + flagBit 5 (decide (r.sense = .inverted))) ++
    bigEndian 1 (flagBit 0 r.waiting + flagBit 1 r.aborted + flagBit 2 r.done) ++
    bigEndian 2 r.progress ++ bigEndian 2 r.remaining ++
    ((indices 4).flatMap fun k => (r.keyer k).bytes) ++ bigEndian 4 (r.readiness n)

/-- One element's record in a CLAIM-STATE (R139). -/
def claimBytes (e : ElemIx) (c : Option Claim) : List Byte :=
  match c with
  | none => bigEndian 1 e.val ++ bigEndian 1 0xFF ++ bigEndian 1 0 ++ bigEndian 2 0
  | some c => bigEndian 1 e.val ++ bigEndian 1 c.holder.val ++
      bigEndian 1 (flagBit 0 c.lock + flagBit 1 c.orphaned) ++ bigEndian 2 c.age

/-- The due field less F as a SCHEDULE-LIST entry carries it: signed, and -2048 for an entry 2048 or more fields
behind (R139). -/
def dueOffset (f due : FieldNo) : Int := max (-2048) (due - f).toInt

/-- A SCHEDULE-LIST entry (R139). The layout calls bit 4, STAGED, meaningful for a RECALL only: an entry of any other
action is sent with the bit 0 (DESIGN CHOICE, unsafe: assumption log 32). -/
def Entry.bytes (f : FieldNo) (e : Entry) : List Byte :=
  let offset := (dueOffset f e.due % 4096).toNat
  let tag := match e.origin with
    | .link _ t => t.toNat
    | .line _ => 0
  let staged := match e.action with
    | .recallEffect _ s => s
    | _ => false
  bigEndian 4 (offset * 2 ^ 20 + tag * 2 ^ 12 + e.action.code * 2 ^ 8 + e.bank.val * 2 ^ 6 +
    flagBit 5 e.linked.isSome + flagBit 4 staged + e.count.getD 15 % 16)

/-- One line's byte in a GPI-STATE (R139). -/
def GpiReport.byte (g : GpiReport) : Byte :=
  BitVec.ofNat 8 (flagBit 0 g.out + flagBit 1 g.level + flagBit 2 g.pin + flagBit 3 g.edge + flagBit 4 g.dropped)

/-- The type code of a frame (R139). -/
def TxFrame.typeCode : TxFrame → Byte
  | .accept _ _ _ => 0x81
  | .refuse _ _ _ _ => 0x82
  | .notice _ _ _ => 0x83
  | .bankState _ _ _ => 0x84
  | .claimState _ _ => 0x85
  | .flow .holdOff => 0x86
  | .flow .resume => 0x87
  | .scheduleList _ _ _ _ _ => 0x88
  | .linkCounts _ _ _ _ _ _ _ _ _ _ => 0x89
  | .gpiState _ _ => 0x8A
  | .configValue _ _ _ => 0x8B
  | .fieldStatus _ _ _ _ _ _ _ => 0x8C

/-- The tag of a frame: BANK-STATE, CLAIM-STATE, HOLD-OFF and RESUME carry 0 (R134). -/
def TxFrame.tag : TxFrame → Byte
  | .accept t _ _ => t
  | .refuse t _ _ _ => t
  | .notice t _ _ => t
  | .bankState _ _ _ => 0
  | .claimState _ _ => 0
  | .flow _ => 0
  | .scheduleList t _ _ _ _ => t
  | .linkCounts t _ _ _ _ _ _ _ _ _ => t
  | .gpiState t _ => t
  | .configValue t _ _ => t
  | .fieldStatus t _ _ _ _ _ _ => t

/-- The body of a frame (R139, Reply and report bodies). -/
def TxFrame.body : TxFrame → List Byte
  | .accept _ answered info => answered :: info.bytes
  | .refuse _ refused reason holder => refused :: bigEndian 1 reason.code ++ bigEndian 1 (linkNumber holder)
  | .notice _ reason b => bigEndian 1 reason.code ++ bigEndian 1 (bankNumber b)
  | .bankState b n r => bankStateBody b n r
  | .claimState subject entries =>
      bigEndian 1 (bankNumber subject) ++ entries.flatMap fun e => claimBytes e.1 e.2
  | .scheduleList _ sequence reports f entries =>
      bigEndian 1 (sequence * 16 + reports % 16) ++ bigEndian 4 f.toNat ++ entries.flatMap (Entry.bytes f)
  | .linkCounts _ l up holdOff take setup transmit promised errors overflow =>
      bigEndian 1 l.val ++ bigEndian 1 (flagBit 0 up + flagBit 1 holdOff) ++ bigEndian 1 take ++ bigEndian 1 setup ++
        bigEndian 1 transmit ++ bigEndian 1 promised ++ bigEndian 2 errors ++ bigEndian 2 overflow
  | .gpiState _ lines => lines.map GpiReport.byte
  | .configValue _ item value => bigEndian 1 item ++ bigEndian 2 value.toNat
  | .fieldStatus _ f locked cfgDefault running period spurious =>
      bigEndian 4 f.toNat ++ bigEndian 1 (flagBit 0 locked + flagBit 1 cfgDefault + flagBit 2 running) ++
        bigEndian 2 period ++ bigEndian 2 spurious
  | .flow _ => []

/-- A frame's bytes from LEN to the end of the body, over which its CRC-16 is computed (R115). -/
def envelope (frameType tag : Byte) (body : List Byte) : List Byte :=
  BitVec.ofNat 8 (body.length + 2) :: frameType :: tag :: body

/-- The whole frame on the line: start byte, LEN, type, tag, body and CRC-16 (R139, Frame envelope). -/
def wholeFrame (frameType tag : Byte) (body : List Byte) : List Byte :=
  0xA5 :: (envelope frameType tag body ++ bigEndian 2 (crc16 (envelope frameType tag body)).toNat)

/-- The bytes a link sends for a frame. -/
def TxFrame.bytes (f : TxFrame) : List Byte := wholeFrame f.typeCode f.tag f.body

/-- A frame as it goes out on a link's line (chapter Panel Links, The line and PRESENT). -/
def TxFrame.onLine (f : TxFrame) : List LineBit := bytesOnLine f.bytes

/-! ### Output ports -/

/-- A record on an output port: start byte 5Ah, the body's length, the body and the CRC-16 over both (R139). -/
def portFrame (body : List Byte) : List Byte :=
  let checked := BitVec.ofNat 8 body.length :: body
  0x5A :: (checked ++ bigEndian 2 (crc16 checked).toNat)

/-- Keyer `k` of a field parameter record (R139). -/
def ParamKeyer.bytes (k : ParamKeyer) : List Byte :=
  bigEndian 1 k.fill.val ++ bigEndian 1 k.key.val ++
    bigEndian 1 (k.kind.code + flagBit 1 k.invert + 4 * k.mark.code) ++
    bigEndian 2 k.lift ++ bigEndian 2 k.slope ++ bigEndian 2 k.level

/-- The body of a field parameter record (R139). -/
def ParamRecord.body (p : ParamRecord) : List Byte :=
  bigEndian 4 p.field.toNat ++ bigEndian 1 (p.bank.val + 1) ++ bigEndian 1 p.a.val ++ bigEndian 1 p.b.val ++
    bigEndian 1 (p.phase.code + 4 * p.kind.code + flagBit 3 p.reverse + flagBit 4 p.wiped) ++
    bigEndian 1 p.pattern ++ bigEndian 1 p.borderColour.source ++ bigEndian 2 p.mix ++
    bigEndian 2 (p.tlo % 65536).toNat ++ bigEndian 2 p.edge ++ bigEndian 2 p.slope ++ bigEndian 2 p.border ++
    (indices 4).flatMap fun k => (pick p.keyers k).bytes

/-- The bytes the Parameter Port sends for a record (R156). -/
def ParamRecord.bytes (p : ParamRecord) : List Byte := portFrame p.body

/-- A record as it goes out on the Parameter Port's line (R157). -/
def ParamRecord.onLine (p : ParamRecord) : List LineBit := bytesOnLine p.bytes

/-- The PGM and PVW bits of the four source codes of byte 4 + j of a tally frame's body (R139). -/
def tallyByte (t : TallyFrame) (j : Nat) : Byte :=
  BitVec.ofNat 8 (((List.range 4).map fun i =>
    if h : 4 * j + i < 55 then
      flagBit (2 * i) (pick t.pgm ⟨4 * j + i, h⟩) + flagBit (2 * i + 1) (pick t.pvw ⟨4 * j + i, h⟩)
    else 0).sum)

/-- The body of a tally frame (R139). -/
def TallyFrame.body (t : TallyFrame) : List Byte := bigEndian 4 t.field.toNat ++ (List.range 14).map (tallyByte t)

/-- The bytes the Tally Port sends for a frame (R146). -/
def TallyFrame.bytes (t : TallyFrame) : List Byte := portFrame t.body

/-- A frame as it goes out on the Tally Port's line (R146). -/
def TallyFrame.onLine (t : TallyFrame) : List LineBit := bytesOnLine t.bytes

end Sys2Proof.Machine
end

