-- ==== Sys2Proof/Machine/Engine.lean ====
section
/-! DEFINITION. The Memory Engine (R159 to R171): the memory map, effect records, the configuration block, the job
queue, and what ready or its absence does to the active job. -/

namespace Sys2Proof.Machine

/-! ### Clamps of values (R63, R68) -/

/-- A rate within 1 to 999 (R63). -/
def clampRate (v : Nat) : Nat := max 1 (min v 999)

/-- A clip, a gain or a lever position within 0 to 1023 (R63). -/
def clampTen (v : Nat) : Nat := min v 1023

/-! ### Codes as bytes name them (R139) -/

/-- The kind a code names. -/
def kindOf (c : Byte) : Option Kind := if c = 0 then some .mix else if c = 1 then some .wipe else none

/-- The direction a code names. -/
def directionOf (c : Byte) : Option Direction :=
  if c = 0 then some .normal else if c = 1 then some .reverse else if c = 2 then some .flipflop else none

/-- The border colour a code names. -/
def borderColourOf (c : Byte) : Option BorderColour := if c = 0 then some .bkgd1 else if c = 1 then some .bkgd2 else none

/-- The keyer type a code names. -/
def keyerTypeOf (c : Byte) : Option KeyerType := if c = 0 then some .luma else if c = 1 then some .linear else none

/-- A byte that is 0 or 1. -/
def boolOf (c : Byte) : Option Bool := if c = 0 then some false else if c = 1 then some true else none

/-- A wipe pattern (R65). -/
def patternOf (c : Byte) : Option Nat := if c.toNat ≤ 15 then some c.toNat else none

/-- A layer set: bits 5 to 7 name no layer (R139). -/
def layersOf (c : Byte) : Option LayerSet := if c.toNat < 32 then some (BitVec.ofNat 5 c.toNat) else none

/-- A keyer number, 1 to 4. -/
def keyerOf (c : Byte) : Option KeyerIx :=
  if h : 1 ≤ c.toNat ∧ c.toNat ≤ 4 then some ⟨c.toNat - 1, by omega⟩ else none

/-! ### Places of the memory map (R160) -/

/-- The directory entry of a register. -/
def directoryAddress (register : Nat) : Address := BitVec.ofNat 24 (0x001000 + 10 * register)

/-- The store slot of a register. -/
def slotAddress (register : Nat) : Address := BitVec.ofNat 24 (0x002000 + 64 * register)

/-- An address some bytes on, modulo 2^24 (R159). -/
def addressOn (a : Address) (k : Nat) : Address := a + BitVec.ofNat 24 k

/-- Bytes written from an address upward. -/
def writesFrom (a : Address) (bs : List Byte) : List (Address × Byte) :=
  (List.range bs.length).zipWith (fun i b => (addressOn a i, b)) bs

/-! ### Effect records (R139, R165, R167) -/

/-- A keyer as an effect record lists it, with its number (R139); the bits of its flags that the layout does not list
are 0 (assumption log 33). -/
def listedKeyer (k : KeyerIx) (y : Keyer) : List Byte :=
  bigEndian 1 (k.val + 1) ++ bigEndian 1 y.fill.val ++ bigEndian 1 y.key.val ++
    bigEndian 1 (y.kind.code + flagBit 1 y.invert + flagBit 2 y.onAir) ++ bigEndian 2 y.clip ++ bigEndian 2 y.gain

/-- The keyers a snapshot lists: those that are ON or in the layer set (R167). -/
def BankRecord.listed (r : BankRecord) : List KeyerIx :=
  (indices 4).filter fun k => (r.keyer k).onAir || hasKey r.layers k

/-- The snapshot of a published copy as an effect record (R167). -/
def BankRecord.snapshot (r : BankRecord) : List Byte :=
  bigEndian 1 1 ++ bigEndian 1 r.a.val ++ bigEndian 1 r.b.val ++ bigEndian 1 r.kind.code ++ bigEndian 2 r.rate ++
    bigEndian 1 r.pattern ++ bigEndian 1 r.direction.code ++ bigEndian 1 r.softness ++ bigEndian 1 r.borderWidth ++
    bigEndian 1 r.borderColour.code ++ bigEndian 1 r.layers.toNat ++ bigEndian 1 r.listed.length ++
    r.listed.flatMap fun k => listedKeyer k (r.keyer k)

/-- The listed keyers of a record, `count` of them, none listed twice; `none` if the check fails (R165). Clip and gain
are clamped (R68), and the bits of the flags that the layout does not list are not examined (assumption log 33). -/
def parseKeyers (strapHigh : Bool) : Nat → List Byte → Option (Vector (Option EffectKeyer) 4)
  | 0, [] => some (Vector.replicate 4 none)
  | count + 1, number :: fill :: key :: flags :: clipHigh :: clipLow :: gainHigh :: gainLow :: rest =>
    match keyerOf number, validSource strapHigh fill, validSource strapHigh key, parseKeyers strapHigh count rest with
    | some k, some f, some y, some others =>
      if (pick others k).isSome then none
      else some (upd others k fun _ => some
        { fill := f, key := y, kind := if flags.getLsbD 0 then .linear else .luma, invert := flags.getLsbD 1,
          onAir := flags.getLsbD 2, clip := clampTen (fromBytes [clipHigh, clipLow]),
          gain := clampTen (fromBytes [gainHigh, gainLow]) })
    | _, _, _, _ => none
  | _, _ => none

/-- The check of a gathered record but for its CRC, and its clamping (R165, R68). -/
def parseEffect (strapHigh : Bool) (record : List Byte) : Option Effect :=
  match record with
  | version :: a :: b :: kind :: rateHigh :: rateLow :: pattern :: direction :: softness :: borderWidth ::
      borderColour :: layers :: count :: keyers =>
    if version = 1 ∧ count.toNat ≤ 4 then
      match validSource strapHigh a, validSource strapHigh b, kindOf kind, patternOf pattern, directionOf direction,
          borderColourOf borderColour, layersOf layers, parseKeyers strapHigh count.toNat keyers with
      | some a, some b, some kind, some pattern, some direction, some colour, some set, some ys =>
        some { a := a, b := b, kind := kind, rate := clampRate (fromBytes [rateHigh, rateLow]), pattern := pattern,
               direction := direction, softness := softness.toNat, borderWidth := borderWidth.toNat,
               borderColour := colour, layers := set, keyers := ys }
      | _, _, _, _, _, _, _, _ => none
    else none
  | _ => none

/-! ### The configuration items as numbers (R179) -/

/-- The item numbers that are assigned, in increasing order (R179). -/
def assignedItems : List Nat :=
  (List.range 6).map (· + 1) ++ (List.range 4).map (· + 8) ++ (List.range 25).map (· + 16) ++
    (List.range 6).map (· + 48) ++ (List.range 24).map (· + 64)

/-- A count of bytes of the configuration block: signature, count, the items of the table in increasing number, and
their CRC-32 (R139, R170). -/
def configBlock (items : Vector (BitVec 16) 88) : List Byte :=
  let body := [0x5A, 0xC3] ++ bigEndian 1 assignedItems.length ++ assignedItems.flatMap fun i =>
    bigEndian 1 i ++ bigEndian 2 (if h : i < 88 then (pick items ⟨i, h⟩).toNat else 0)
  body ++ bigEndian 4 (crc32 body).toNat

/-- The items of a configuration block, in the order it holds them: number and value. -/
def blockEntries : List Byte → List (Nat × BitVec 16)
  | number :: high :: low :: rest => (number.toNat, BitVec.ofNat 16 (fromBytes [high, low])) :: blockEntries rest
  | _ => []

/-! ### Jobs -/

/-- A job is the recall job of bank `b`. -/
def Job.isRecallOf (b : BankIx) : Job → Bool
  | .recallEffect c _ _ => c == b
  | _ => false

/-- The writes of a store job, in order (R168). -/
def storeWrites (register : Nat) (record : List Byte) : List (Address × Byte) :=
  let entry := directoryAddress register
  let slot := slotAddress register
  (entry, 0x00) :: (writesFrom (addressOn slot 8) record ++
    writesFrom slot (bigEndian 3 (addressOn slot 8).toNat ++ bigEndian 2 record.length ++ [1] ++ bigEndian 2 0) ++
    writesFrom (addressOn entry 1)
      (bigEndian 3 slot.toNat ++ bigEndian 2 record.length ++ bigEndian 4 (crc32 record).toNat) ++
    [(entry, 0x01)])

namespace Engine

/-- A read of an address on the port, with the active job at a stage (R159). -/
def reading (g : Engine) (now : Micros) (stage : Stage) (a : Address) : Engine :=
  { g with stage := some stage, port := some { address := a, data := none, raised := now } }

/-- The next of a job's writes on the port, the rest after it (R159, R168, R170). -/
def writing (g : Engine) (now : Micros) : List (Address × Byte) → Engine
  | (a, v) :: rest =>
    { g with stage := some (.writing rest), port := some { address := a, data := some v, raised := now } }
  | [] => g

/-- A job becomes active: its first access is begun (R161, R163, R168, R170, R171). A save takes its copy of the
Configuration Table now. -/
def start (g : Engine) (now : Micros) (items : Vector (BitVec 16) 88) : Job → Engine
  | .recallEffect _ register _ => g.reading now (.directory []) (directoryAddress register)
  | .store _ _ _ register snapshot => g.writing now (storeWrites register snapshot)
  | .save _ _ => g.writing now (writesFrom 0 (configBlock items))
  | .load => g.reading now (.loading []) 0

/-- The job at the head becomes active once no job is and the port is idle (R161). -/
def activate (g : Engine) (now : Micros) (items : Vector (BitVec 16) 88) : Engine :=
  match g.stage, g.port, g.jobs with
  | none, none, j :: _ => g.start now items j
  | _, _, _ => g

/-- A job joins the queue at the tail (R161). -/
def enqueue (g : Engine) (now : Micros) (items : Vector (BitVec 16) 88) (j : Job) : Engine :=
  activate { g with jobs := g.jobs ++ [j] } now items

/-- The recall job of bank `b`, if there is one, is removed while it waits or abandoned while it is active; an access in
flight is carried to its end (R162). -/
def dropRecall (g : Engine) (now : Micros) (items : Vector (BitVec 16) 88) (b : BankIx) : Engine :=
  match g.jobs with
  | [] => g
  | j :: rest =>
    if j.isRecallOf b then activate { g with jobs := rest.filter fun k => !k.isRecallOf b, stage := none } now items
    else { g with jobs := j :: rest.filter fun k => !k.isRecallOf b }

/-- The queue emptied and the active job abandoned by a soft RESET (R162). -/
def emptied (g : Engine) : Engine := { g with jobs := [], stage := none }

end Engine

/-- What an access brings the active job to (R163 to R171). -/
inductive Progress where
  /-- The job reads on, at a stage and an address. -/
  | readOn (stage : Stage) (a : Address)
  /-- The job writes on. -/
  | writeOn (writes : List (Address × Byte))
  /-- A recall fails. -/
  | failed (reason : Reason)
  /-- A recall's record has passed its check. -/
  | staged (e : Effect)
  /-- A store or save has made its last write. -/
  | written
  /-- The load hands start-up the items read, or the finding that the block is bad. -/
  | loaded (entries : Option (List (Nat × BitVec 16)))
deriving DecidableEq, Repr

/-- A slice of the bytes read. -/
def slice (bs : List Byte) (start count : Nat) : List Byte := (bs.drop start).take count

/-- The directory entry has been read whole (R163). -/
def directoryRead (got : List Byte) : Progress :=
  let length := fromBytes (slice got 4 2)
  let start := BitVec.ofNat 24 (fromBytes (slice got 1 3))
  if slice got 0 1 ≠ [0x01] then .failed .emptyReg
  else if length < 13 ∨ 45 < length then .failed .badRecord
  else .readOn (.chain start length (BitVec.ofNat 32 (fromBytes (slice got 6 4))) [] []) start

/-- A descriptor from its eight bytes (R139). -/
def descriptorOf (got : List Byte) : Descriptor :=
  { fragment := BitVec.ofNat 24 (fromBytes (slice got 0 3))
    length := fromBytes (slice got 3 2)
    last := (BitVec.ofNat 8 (fromBytes (slice got 5 1))).getLsbD 0
    next := fromBytes (slice got 6 2) }

/-- The addresses of a chain's fragment bytes, in the order they are gathered (R165). -/
def fragmentAddresses (read : List Descriptor) : List Address :=
  read.flatMap fun d => (List.range d.length).map (addressOn d.fragment)

/-- A descriptor has been read whole (R164). -/
def descriptorRead (start : Address) (length : Nat) (crc : BitVec 32) (read : List Descriptor) (got : List Byte) :
    Progress :=
  let d := descriptorOf got
  let all := read ++ [d]
  if d.last then
    if (all.map Descriptor.length).sum ≠ length then .failed .badRecord
    else match fragmentAddresses all with
      | a :: _ => .readOn (.fragments length crc all []) a
      | [] => .failed .badRecord
  else if Config.chainLimit ≤ all.length then .failed .badRecord
  else .readOn (.chain start length crc all []) (addressOn start d.next)

/-- The record has been gathered whole: the check stage (R165). -/
def recordRead (strapHigh : Bool) (crc : BitVec 32) (buffer : List Byte) : Progress :=
  if crc32 buffer ≠ crc then .failed .badRecord
  else match parseEffect strapHigh buffer with
    | some e => .staged e
    | none => .failed .badRecord

/-- The bytes the load reads: 3, and if the signature and the count are good, the items and the CRC (R171). -/
def blockLength (got : List Byte) : Nat := 3 + 3 * fromBytes (slice got 2 1) + 4

/-- The load has read another byte of the block (R171). -/
def blockRead (got : List Byte) : Progress :=
  let next := Progress.readOn (.loading got) (BitVec.ofNat 24 got.length)
  if got.length < 3 then next
  else if slice got 0 2 ≠ [0x5A, 0xC3] ∨ Config.blockItems < fromBytes (slice got 2 1) then .loaded none
  else if got.length < blockLength got then next
  else
    let covered := 3 + 3 * fromBytes (slice got 2 1)
    if (crc32 (slice got 0 covered)).toNat = fromBytes (slice got covered 4) then
      .loaded (some (blockEntries (slice got 3 (covered - 3))))
    else .loaded none

/-- The active job's next stage or access, or its end, when ready brings a byte (R159, R163 to R171). -/
def advance (strapHigh : Bool) (access : Access) (data : Byte) : Stage → Progress
  | .directory got =>
    if got.length + 1 < 10 then .readOn (.directory (got ++ [data])) (addressOn access.address 1)
    else directoryRead (got ++ [data])
  | .chain start length crc read got =>
    if got.length + 1 < 8 then .readOn (.chain start length crc read (got ++ [data])) (addressOn access.address 1)
    else descriptorRead start length crc read (got ++ [data])
  | .fragments length crc read buffer =>
    match (fragmentAddresses read)[buffer.length + 1]? with
    | some a => .readOn (.fragments length crc read (buffer ++ [data])) a
    | none => recordRead strapHigh crc (buffer ++ [data])
  | .writing rest => if rest.isEmpty then .written else .writeOn rest
  | .loading got => blockRead (got ++ [data])

end Sys2Proof.Machine
end

