-- ==== Sys2Proof/Machine/Schedule.lean ====
section
/-! DEFINITION. The Schedule (R69 to R93): due fields, insertion, supersede and removal, and the sweep. -/

namespace Sys2Proof.Machine

/-! ### Insertion and removal -/

/-- The due field of a change inserted now (R69). -/
def State.dueField (s : State) (lead : Nat) : FieldNo := fieldsOn s.ref.counter (2 + s.commandLatency + lead)

/-- An entry inserted after every entry due at or before its own due field (R72). -/
def insertEntry (e : Entry) : List Entry → List Entry
  | [] => [e]
  | x :: rest => if atLeast e.due x.due then x :: insertEntry e rest else e :: x :: rest

/-- Entries with one due field inserted together, in their order (R71, R72). -/
def insertEntries (es : List Entry) (list : List Entry) : List Entry := es.foldl (fun l e => insertEntry e l) list

/-- A new entry, not yet judged (R70). -/
def newEntry (due : FieldNo) (o : Origin) (b : BankIx) (action : Action) (linked : Option Nat) : Entry :=
  { due := due, origin := o, bank := b, action := action, linked := linked, count := none, dealt := false }

/-- The entries a request or a GPI action makes, one for each bank, a linked set when there are several (R71). -/
def newEntries (due : FieldNo) (o : Origin) (bs : List BankIx) (action : Action) (set : Nat) : List Entry :=
  bs.map fun b => newEntry due o b action (if 2 ≤ bs.length then some set else none)

/-- The free places of the list (R73). -/
def State.freePlaces (s : State) : Nat := Config.listPlaces - s.schedule.length

/-- The entries of a request or a GPI action inserted as one insertion (R71, R74). -/
def State.insertAction (s : State) (due : FieldNo) (o : Origin) (bs : List BankIx) (action : Action) : State :=
  { s with
    schedule := insertEntries (newEntries due o bs action s.nextSet) s.schedule
    nextSet := s.nextSet + 1 }

/-- An entry is a recall for bank `b`. -/
def Entry.isRecallOf (b : BankIx) (e : Entry) : Bool :=
  match e.action with
  | .recallEffect _ _ => e.bank == b
  | _ => false

/-- The recall of bank `b` that is in the list (R88: there is at most one). -/
def State.recallOf (s : State) (b : BankIx) : Option Entry := s.schedule.find? (Entry.isRecallOf b)

/-- The recall of bank `b` taken out of the part: its entry, its job and its staged record (R88, R89, R162, R166). -/
def State.dropRecall (s : State) (b : BankIx) : State :=
  { s with
    schedule := s.schedule.filter fun e => !e.isRecallOf b
    engine := s.engine.dropRecall s.now s.items b
    banks := upd s.banks b fun k => { k with staging := none } }

/-- A RECALL's supersede of an older recall for its bank (R88). -/
def State.supersede (s : State) (b : BankIx) : State :=
  match s.recallOf b with
  | some e => (s.dropRecall b).notify e.origin .superseded (some b)
  | none => s

/-- The free places of the list for a RECALL of bank `b`, counting the one its supersede would free (R73, R175). -/
def State.freePlacesForRecall (s : State) (b : BankIx) : Nat :=
  Config.listPlaces - (s.schedule.filter fun e => !e.isRecallOf b).length

/-- The jobs that will stand beside a recall job of bank `b` after its supersede (R161). -/
def State.jobsBesideRecall (s : State) (b : BankIx) : Nat :=
  (s.engine.jobs.filter fun j => !j.isRecallOf b).length

/-- A RECALL inserted: supersede, the FETCHING entry and its job, as one step (R85). -/
def State.insertRecall (s : State) (due : FieldNo) (o : Origin) (b : BankIx) (register : Nat) : State :=
  let s := (s.supersede b).insertAction due o [b] (.recallEffect register false)
  { s with engine := s.engine.enqueue s.now s.items (.recallEffect b register o) }

/-- The entry of a staged recall is marked STAGED (R86). -/
def markStaged (b : BankIx) (e : Entry) : Entry :=
  match e.action with
  | .recallEffect r _ => if e.bank = b then { e with action := .recallEffect r true } else e
  | _ => e

/-! ### The sweep (R76 to R84) -/

/-- An entry is due at target field N (R75). -/
def Entry.dueAt (n : FieldNo) (e : Entry) : Bool := atLeast n e.due

/-- The entries that the sweep has dealt with and left, and those it has not reached (R76). -/
def unswept (list : List Entry) : List Entry := list.dropWhile Entry.dealt

/-- The entries the sweep has dealt with and left in the list (R76). -/
def swept (list : List Entry) : List Entry := list.takeWhile Entry.dealt

/-- The entry the sweep for N takes next: the first it has not reached, if that entry is due (R76). -/
def nextDue (n : FieldNo) (list : List Entry) : Option Entry :=
  match unswept list with
  | e :: _ => if e.dueAt n then some e else none
  | [] => none

/-- Sweep-end N announced to the controller of every enabled bank, and the sweep's own state discarded (R84). -/
def State.endSweep (s : State) (n : FieldNo) : State :=
  { s with
    sweep := none
    banks := tab fun b => if s.enabled b then { s.bank b with updateDue := some n } else s.bank b }

/-- Sweep-end, if the sweep has no entry left to deal with (R84). -/
def State.settleSweep (s : State) : State :=
  match s.sweep with
  | some w => if (nextDue w.target s.schedule).isNone then s.endSweep w.target else s
  | none => s

/-- The sweep for target field N begins (R76). -/
def State.startSweep (s : State) (n : FieldNo) : State :=
  State.settleSweep
    { s with
      sweep := some { target := n, used := 0, deferred := Vector.replicate 4 false }
      schedule := s.schedule.map fun e => { e with dealt := false } }

/-- What a sweep does with an entry (R76). -/
inductive SweepOutcome where
  | deferred (count : Option Nat)
  | refused (reason : Reason)
  | applied (count : Nat) (note : Option Reason)
deriving DecidableEq, Repr

/-- A RECALL entry still FETCHING (R77). -/
def Entry.fetching (e : Entry) : Bool :=
  match e.action with
  | .recallEffect _ staged => !staged
  | _ => false

/-- The outcome of an entry outside a linked set (R77): the age limit, then the five questions in order. An entry deferred
keeps the count of its judgement, 0 for a hold back since only actions that change no source are held back (R81), or the
count it had where it is not judged. -/
def State.outcomeOf (s : State) (w : Sweep) (e : Entry) : SweepOutcome :=
  if stale w.target e.due then .refused .busy
  else if pick w.deferred e.bank then .deferred e.count
  else if e.fetching then .deferred e.count
  else match s.judge e.bank e.action w.target with
    | .refuse reason => .refused reason
    | .holdBack => .deferred (some 0)
    | .goAhead count note =>
      if Config.crosspointBudget < w.used + count then .deferred (some count) else .applied count note

/-- A bank joins the set of deferred banks, and WAITING is set in its working copy (R78). -/
def State.deferBank (s : State) (w : Sweep) (b : BankIx) : State :=
  { s with
    sweep := some { w with deferred := upd w.deferred b fun _ => true }
    banks := upd s.banks b fun k => { k with working := { k.working with waiting := true } } }

/-- A refused entry: its notice goes to its origin (R79), and a recall leaves with its job and record (R162, R166). -/
def State.refuseEntry (s : State) (e : Entry) (reason : Reason) : State :=
  let s := match e.action with
    | .recallEffect _ _ => { s with
        engine := s.engine.dropRecall s.now s.items e.bank
        banks := upd s.banks e.bank fun k => { k with staging := none } }
    | _ => s
  s.notify e.origin reason (some e.bank)

/-- An applied entry: counted, performed, and its notice, if any, sent (R80). -/
def State.applyEntry (s : State) (w : Sweep) (e : Entry) (count : Nat) (note : Option Reason) : State :=
  let s := { s with sweep := some { w with used := w.used + count } }
  let s := s.perform e.bank e.action w.target
  match note with
  | some reason => s.notify e.origin reason (some e.bank)
  | none => s

/-- An outcome carried out on an entry that stands between those left behind it and those before it (R76). -/
def State.dealEntry (s : State) (w : Sweep) (e : Entry) (left rest : List Entry) : State :=
  match s.outcomeOf w e with
  | .deferred count =>
    State.deferBank { s with schedule := left ++ { e with count := count, dealt := true } :: rest } w e.bank
  | .refused reason => State.refuseEntry { s with schedule := left ++ rest } e reason
  | .applied count note => State.applyEntry { s with schedule := left ++ rest } w e count note

/-! ### Linked sets in the sweep (R83) -/

/-- A member of a linked set is in a deferred bank or is judged hold back (R83). -/
def State.memberWaits (s : State) (w : Sweep) (e : Entry) : Bool :=
  pick w.deferred e.bank || (s.judge e.bank e.action w.target == .holdBack)

/-- A member of a deferred set: judged, unless its bank was deferred already (R77), and with the count 0 of a take (R81,
R83). A member is judged whether or not another has settled that the set waits (assumption log 23). -/
def deferMember (w : Sweep) (e : Entry) : Entry :=
  { e with count := if pick w.deferred e.bank then e.count else some 0, dealt := true }

/-- A member of a set that is not deferred, dealt with on its own (R83). -/
def State.dealMember (s : State) (w : Sweep) (e : Entry) (judged : Judgement) : State :=
  match judged with
  | .refuse reason => s.refuseEntry e reason
  | .holdBack => s
  | .goAhead count note => s.applyEntry w e count note

/-- A linked set dealt with as a whole (R83): refused for age, deferred, or each member refused or applied after all
have been judged. -/
def State.dealSet (s : State) (w : Sweep) (members left rest : List Entry) : State :=
  if members.any fun e => stale w.target e.due then
    members.foldl (fun t e => t.refuseEntry e .busy) { s with schedule := left ++ rest }
  else if members.any (s.memberWaits w) then
    { s with
      schedule := left ++ members.map (deferMember w) ++ rest
      sweep := some { w with deferred := tab fun b => pick w.deferred b || members.any fun e => e.bank == b }
      banks := tab fun b =>
        if members.any fun e => e.bank == b then
          { s.bank b with working := { (s.bank b).working with waiting := true } }
        else s.bank b }
  else
    (members.map fun e => (e, s.judge e.bank e.action w.target)).foldl (fun t m => t.dealMember w m.1 m.2)
      { s with schedule := left ++ rest }

/-- The members of the linked set that stands at the head of the entries not yet reached (R71). -/
def setMembers (set : Nat) (list : List Entry) : List Entry := list.takeWhile fun e => e.linked == some set

/-- The entries after the linked set at the head of those not yet reached. -/
def afterSet (set : Nat) (list : List Entry) : List Entry := list.dropWhile fun e => e.linked == some set

end Sys2Proof.Machine
end

