-- ==== Sys2Proof/Machine/Tally.lean ====
section
/-! DEFINITION. Contribution (R16), the Tally Resolver (R140 to R147), the outputs of the GPI Unit (R176) and the two
output ports (R146, R157). -/

namespace Sys2Proof.Machine

/-! ### Contribution (R16, R144) -/

/-- A keyer's fill, and its key when it is LINEAR, when the keyer counts. -/
def Keyer.contribution (k : Keyer) (counts : Bool) : List Source :=
  if counts then k.fill :: (if k.kind == .linear then [k.key] else []) else []

/-- The current contributors of a bank (R16). -/
def BankRecord.contributors (r : BankRecord) : List Source :=
  r.a :: ((if r.isRunning && hasBkgd r.layers then [r.b] else []) ++
    (indices 4).flatMap fun k =>
      (r.keyer k).contribution ((r.keyer k).onAir || (hasKey r.layers k && r.isRunning)))

/-- The preview contributors of a bank (R144). -/
def BankRecord.previewContributors (r : BankRecord) : List Source :=
  (if hasBkgd r.layers then r.b else r.a) ::
    (indices 4).flatMap fun k => (r.keyer k).contribution ((r.keyer k).onAir != hasKey r.layers k)

/-- Sources with the expanded contributors of the banks they re-enter, over published copies, following at most `fuel`
re-entries (R16). -/
def expand (banks : Vector Bank 4) : Nat → List Source → List Source
  | 0, cs => cs
  | fuel + 1, cs =>
    cs ++ (cs.filterMap reentered).flatMap fun b => expand banks fuel (pick banks b).published.contributors

/-- The expanded contributors of a bank (R16). Four banks have no path longer than three re-entries without passing
one of them twice. -/
def State.expanded (s : State) (b : BankIx) : List Source := expand s.banks 4 (s.published b).contributors

/-- An air bank: named by AIR_BANKS and enabled (R140). -/
def State.isAir (s : State) (b : BankIx) : Bool := s.airBank b && s.enabled b

/-- The PGM set (R143). -/
def State.programSources (s : State) : List Source := ((indices 4).filter s.isAir).flatMap s.expanded

/-- The PVW set (R145). -/
def State.previewSources (s : State) : List Source :=
  ((indices 4).filter s.isAir).flatMap fun b => expand s.banks 4 (s.published b).previewContributors

/-- The table a resolution for N gives (R142). -/
def State.resolution (s : State) (n : FieldNo) : TallyTable :=
  let pgm := s.programSources
  let pvw := s.previewSources
  { field := n
    pgm := tab fun c => pgm.contains c
    pvw := tab fun c => pvw.contains c
    running := tab fun b => s.enabled b && (s.published b).isRunning
    done := tab fun b => s.enabled b && (s.published b).done }

/-! ### GPI outputs (R147, R176, R180) -/

/-- Bit 15 of GPI_MODE: the line is OUT (R180). -/
def modeOut (mode : BitVec 16) : Bool := mode.getLsbD 15

/-- The level of an OUT line before invert, from the table (R147, R176): a source or bank the table does not mark is
clear. -/
def outLevel (table : Option TallyTable) (mode arg : BitVec 16) : Bool :=
  match table with
  | none => false
  | some t =>
    let low := arg.toNat % 256
    let source (marks : Vector Bool 55) := if h : low < 55 then pick marks ⟨low, h⟩ else false
    let bank (marks : Vector Bool 4) := if h : 1 ≤ low ∧ low ≤ 4 then pick marks ⟨low - 1, by omega⟩ else false
    match mode.toNat % 8 with
    | 1 => source t.pgm
    | 2 => source t.pvw
    | 3 => bank t.running
    | 4 => bank t.done
    | _ => false

/-- What line drives under its mode and argument: the level with its invert applied, or nothing for an IN line (R176,
R177). -/
def drivenLevel (table : Option TallyTable) (mode arg : BitVec 16) : Option Bool :=
  if modeOut mode then some (outLevel table mode arg != mode.getLsbD 3) else none

/-- Every OUT line's driven level set from the table (R176). -/
def State.setOutputs (s : State) : State :=
  { s with lines := tab fun n => { s.line n with driven := drivenLevel s.table (s.gpiMode n) (s.gpiArg n) } }

/-! ### The output ports -/

/-- A record handed to the Parameter Port (R157). -/
def ParamPort.hand (p : ParamPort) (now : Micros) (r : ParamRecord) : ParamPort :=
  match p.line with
  | none => { p with line := some (r, now) }
  | some _ => { p with waiting := p.waiting ++ [r] }

/-- The record on the Parameter Port's line has been sent (R157). -/
def ParamPort.sent (p : ParamPort) (now : Micros) : ParamPort :=
  match p.waiting with
  | r :: rest => { line := some (r, now), waiting := rest }
  | [] => { line := none, waiting := [] }

/-- A frame handed to the Tally Port (R146). -/
def TallyPort.hand (p : TallyPort) (now : Micros) (f : TallyFrame) : TallyPort :=
  match p.line with
  | none => { p with line := some (f, now) }
  | some _ => { p with waiting := p.waiting ++ [f] }

/-- The frame on the Tally Port's line has been sent (R146). -/
def TallyPort.sent (p : TallyPort) (now : Micros) : TallyPort :=
  match p.waiting with
  | f :: rest => { line := some (f, now), waiting := rest }
  | [] => { line := none, waiting := [] }

/-! ### Gathering and resolution (R141, R142) -/

/-- The tally frame built from a table (R146). -/
def TallyTable.frame (t : TallyTable) : TallyFrame := { field := t.field, pgm := t.pgm, pvw := t.pvw }

/-- The gathering after bank `b` has published for N (R142). -/
def gathered (g : Option Gathering) (n : FieldNo) (b : BankIx) : Gathering :=
  match g with
  | some g =>
    if g.field = n then { g with banks := upd g.banks b fun _ => true }
    else { field := n, banks := tab fun c => c == b }
  | none => { field := n, banks := tab fun c => c == b }

/-- Every enabled bank has published for the gathering's field (R142). -/
def State.complete (s : State) (g : Gathering) : Bool := (indices 4).all fun b => !s.enabled b || pick g.banks b

/-- Resolution for N: the table replaced, the gathering ended, the frame handed to the Tally Port and the table to the
GPI outputs, as one step (R142, R146, R147). -/
def State.resolve (s : State) (n : FieldNo) : State :=
  State.setOutputs
    { s with
      table := some (s.resolution n)
      gathering := none
      tallyPort := s.tallyPort.hand s.now (s.resolution n).frame }

/-- The Tally Resolver is told that bank `b` has published for N (R142). -/
def State.gather (s : State) (n : FieldNo) (b : BankIx) : State :=
  let g := gathered s.gathering n b
  if s.complete g then s.resolve n else { s with gathering := some g }

end Sys2Proof.Machine
end

