-- ==== Sys2Proof/Machine/Operands.lean ====
section
/-! DEFINITION. The operands of requests: the parsing of a frame's body by its type (R116, R139), the examination and
clamping of values (R63, R65, R94, R128, R180, R181), and the codes of the configuration items. -/

namespace Sys2Proof.Machine

/-! ### Frames to requests (R116, R139) -/

/-- A body whose length fits its type, or a malformed frame with its fault (R116). -/
def parseBody (frameType : Byte) (body : List Byte) : Body :=
  let bad := Body.malformed frameType .badLength
  match frameType.toNat with
  | 0x01 => match body with
    | [bank, bus, source, lead] => .select bank bus source lead
    | _ => bad
  | 0x02 => match body with
    | [mask, lead] => .cut mask lead
    | _ => bad
  | 0x03 => match body with
    | [mask, lead] => .auto mask lead
    | _ => bad
  | 0x04 => match body with
    | [mask, lead] => .hold mask lead
    | _ => bad
  | 0x05 => match body with
    | [bank, high, low] => .lever bank (fromBytes [high, low])
    | _ => bad
  | 0x06 => match body with
    | [bank, keyer, onOff, lead] => .keyCut bank keyer onOff lead
    | _ => bad
  | 0x07 => match body with
    | [bank, keyer, mask, fill, key, kind, c1, c0, g1, g0, invert, lead] =>
      .keySetup bank keyer mask fill key kind (fromBytes [c1, c0]) (fromBytes [g1, g0]) invert lead
    | _ => bad
  | 0x08 => match body with
    | [bank, mask, kind, r1, r0, pattern, direction, softness, width, colour, lead] =>
      .transSetup bank mask kind (fromBytes [r1, r0]) pattern direction softness width colour lead
    | _ => bad
  | 0x09 => match body with
    | [bank, set, lead] => .layers bank set lead
    | _ => bad
  | 0x0A => match body with
    | [element] => .claim element
    | _ => bad
  | 0x0B => match body with
    | [element] => .release element
    | _ => bad
  | 0x0C => match body with
    | [element] => .breakLock element
    | _ => bad
  | 0x0D => match body with
    | [bank, register, lead] => .recallEffect bank register lead
    | _ => bad
  | 0x0E => match body with
    | [bank, register] => .store bank register
    | _ => bad
  | 0x0F => match body with
    | [tag] => .cancel tag
    | _ => bad
  | 0x10 => match body with
    | [item, high, low] => .config item (BitVec.ofNat 16 (fromBytes [high, low]))
    | _ => bad
  | 0x11 => match body with
    | [] => .saveConfig
    | _ => bad
  | 0x12 => match body with
    | [] => .reset
    | _ => bad
  | 0x13 => match body with
    | [subject, argument] => .query subject argument
    | _ => bad
  | _ => .malformed frameType .badType

/-- The type code of the frame that carried a request (R132, R139). -/
def Body.code : Body → Byte
  | .select _ _ _ _ => 0x01
  | .cut _ _ => 0x02
  | .auto _ _ => 0x03
  | .hold _ _ => 0x04
  | .lever _ _ => 0x05
  | .keyCut _ _ _ _ => 0x06
  | .keySetup _ _ _ _ _ _ _ _ _ _ => 0x07
  | .transSetup _ _ _ _ _ _ _ _ _ _ => 0x08
  | .layers _ _ _ => 0x09
  | .claim _ => 0x0A
  | .release _ => 0x0B
  | .breakLock _ => 0x0C
  | .recallEffect _ _ _ => 0x0D
  | .store _ _ => 0x0E
  | .cancel _ => 0x0F
  | .config _ _ => 0x10
  | .saveConfig => 0x11
  | .reset => 0x12
  | .query _ _ => 0x13
  | .malformed t _ => t

/-- The receive queue a request joins (R117). -/
def Body.queue : Body → QueueKind
  | .cut _ _ | .auto _ _ | .hold _ _ | .lever _ _ | .keyCut _ _ _ _ => .take
  | _ => .setup

/-- The bank number a LEVER names, whatever it holds (R117). -/
def Body.leverBank : Body → Option Byte
  | .lever b _ => some b
  | _ => none

/-! ### Values examined (R65) -/

/-- A bank number that is an enabled bank (R4, R65). -/
def State.bankOf (s : State) (c : Byte) : Except Reason BankIx :=
  if h : 1 ≤ c.toNat ∧ c.toNat ≤ 4 then
    if s.enabled ⟨c.toNat - 1, by omega⟩ then .ok ⟨c.toNat - 1, by omega⟩ else .error .badBank
  else .error .badBank

/-- The banks of a mask, in increasing order. -/
def maskBanks (mask : Nat) : List BankIx := (indices 4).filter fun b => mask.testBit b.val

/-- A bank mask: it names at least one bank, and enabled banks only (R65, R139). -/
def State.banksOf (s : State) (mask : Byte) : Except Reason (List BankIx) :=
  let bs := maskBanks mask.toNat
  if mask = 0 ∨ 16 ≤ mask.toNat ∨ (bs.all s.enabled) = false then .error .badBank else .ok bs

/-- A named value, refused with BADVALUE when its code is none (R65). -/
def named {α : Type} (v : Option α) : Except Reason α :=
  match v with
  | some v => .ok v
  | none => .error .badValue

/-- A value examined only when its mask bit selects it (R65, R128). -/
def masked {α : Type} (mask : Byte) (bit : Nat) (examine : Except Reason α) : Except Reason (Option α) :=
  if mask.getLsbD bit then examine.map some else .ok none

/-- A source valid under R2. -/
def State.sourceOf (s : State) (c : Byte) : Except Reason Source :=
  match validSource s.strapHigh c with
  | some c => .ok c
  | none => .error .badSource

/-- The own re-entry test of a source for bank `b` (R3). -/
def notOwn (b : BankIx) (c : Source) : Except Reason Unit := if c = meCode b then .error .loop else .ok ()

/-- The own re-entry test of a source the mask may leave out (R3). -/
def notOwnIf (b : BankIx) (c : Option Source) : Except Reason Unit :=
  match c with
  | some c => notOwn b c
  | none => .ok ()

/-- The bus a code names. -/
def busOf (c : Byte) : Option Bus := if c = 0 then some .a else if c = 1 then some .b else none

/-- An effects register (R65). -/
def registerOf (c : Byte) : Option Nat := if c.toNat ≤ 99 then some c.toNat else none

/-- What a request that schedules a change asks for: its banks, its action, and the elements it needs (R71, R95). -/
structure Plan where
  banks : List BankIx
  action : Action
  elements : List ElemIx
deriving DecidableEq, Repr

/-- SELECT's values (R65, R127). -/
def State.planSelect (s : State) (bank bus source : Byte) : Except Reason Plan := do
  let b ← s.bankOf bank
  let u ← named (busOf bus)
  let c ← s.sourceOf source
  notOwn b c
  return { banks := [b], action := .select u c, elements := [bkgdElement b] }

/-- The values of CUT, AUTO and HOLD (R65, R127). -/
def State.planMask (s : State) (mask : Byte) (action : Action) : Except Reason Plan := do
  let bs ← s.banksOf mask
  return { banks := bs, action := action, elements := bs.map transElement }

/-- KEY-CUT's values (R65, R127). -/
def State.planKeyCut (s : State) (bank keyer onOff : Byte) : Except Reason Plan := do
  let b ← s.bankOf bank
  let k ← named (keyerOf keyer)
  let on ← named (boolOf onOff)
  return { banks := [b], action := .keyCut k on, elements := [keyElement b k] }

/-- A which-fields mask that names fields of the request only (R65, R128). -/
def maskFits (mask : Byte) (fields : Nat) : Except Reason Unit :=
  if mask.toNat < 2 ^ fields then .ok () else .error .badValue

/-- KEY-SETUP's values, examined and clamped as the mask selects them (R63, R65, R128). -/
def State.planKeySetup (s : State) (bank keyer mask fill key kind : Byte) (clip gain : Nat) (invert : Byte) :
    Except Reason Plan := do
  let b ← s.bankOf bank
  let k ← named (keyerOf keyer)
  maskFits mask 6
  let t ← masked mask 2 (named (keyerTypeOf kind))
  let i ← masked mask 5 (named (boolOf invert))
  let f ← masked mask 0 (s.sourceOf fill)
  let y ← masked mask 1 (s.sourceOf key)
  notOwnIf b f
  notOwnIf b y
  let action := Action.keySetup k
        { fill := f, key := y, kind := t
          clip := if mask.getLsbD 3 then some (clampTen clip) else none
          gain := if mask.getLsbD 4 then some (clampTen gain) else none
          invert := i }
  return { banks := [b], action := action, elements := [keyElement b k] }

/-- TRANS-SETUP's values, examined and clamped as the mask selects them (R63, R65, R128). -/
def State.planTransSetup (s : State) (bank mask kind : Byte) (rate : Nat)
    (pattern direction softness borderWidth borderColour : Byte) : Except Reason Plan := do
  let b ← s.bankOf bank
  maskFits mask 7
  let k ← masked mask 0 (named (kindOf kind))
  let p ← masked mask 2 (named (patternOf pattern))
  let d ← masked mask 3 (named (directionOf direction))
  let c ← masked mask 6 (named (borderColourOf borderColour))
  let action := Action.transSetup
        { kind := k
          rate := if mask.getLsbD 1 then some (clampRate rate) else none
          pattern := p
          direction := d
          softness := if mask.getLsbD 4 then some softness.toNat else none
          borderWidth := if mask.getLsbD 5 then some borderWidth.toNat else none
          borderColour := c }
  return { banks := [b], action := action, elements := [transElement b] }

/-- LAYERS' values (R65, R127). -/
def State.planLayers (s : State) (bank set : Byte) : Except Reason Plan := do
  let b ← s.bankOf bank
  let v ← named (layersOf set)
  return { banks := [b], action := .layers v, elements := [transElement b] }

/-- A bank and an effects register, as RECALL and STORE name them (R65). -/
def State.bankRegister (s : State) (bank register : Byte) : Except Reason (BankIx × Nat) := do
  let b ← s.bankOf bank
  let r ← named (registerOf register)
  return (b, r)

/-- An element number: above 24 it is no value, and a bank that is not enabled is a bad bank (R94). -/
def State.elementOf (s : State) (c : Byte) : Except Reason ElemIx :=
  if h : c.toNat < 25 then
    match elementBank ⟨c.toNat, h⟩ with
    | some b => if s.enabled b then .ok ⟨c.toNat, h⟩ else .error .badBank
    | none => .ok ⟨c.toNat, h⟩
  else .error .badValue

/-! ### Configuration items (R67, R179 to R181) -/

/-- An item number is assigned (R179). -/
def assigned (number : Nat) : Bool := assignedItems.contains number

/-- An item of a bank that is not enabled under the strap: DWELL_FIELDS or ELEMENT_GROUP of bank 3 or 4 (R179). -/
def itemOfAbsentBank (strapHigh : Bool) (number : Nat) : Bool :=
  !strapHigh && (decide (10 ≤ number ∧ number ≤ 11) || decide (28 ≤ number ∧ number ≤ 39))

/-- The range of a numeric item (R179). -/
def itemRange (number : Nat) : Nat × Nat :=
  if number = 1 then (0, 15)
  else if number = 2 ∨ number = 3 then (0, 7)
  else if number = 4 then (0, 1023)
  else if number = 5 then (0, 65535)
  else if number = 6 then (1, 15)
  else if number ≤ 11 then (0, 15)
  else if number ≤ 40 then (0, 7)
  else (0, 255)

/-- A numeric item's value clamped to its range (R67). -/
def clampItem (number : Nat) (value : BitVec 16) : BitVec 16 :=
  BitVec.ofNat 16 (max (itemRange number).1 (min value.toNat (itemRange number).2))

/-- A GPI_MODE value with its spare bits 0, if it is a code (R180). -/
def modeValue (value : BitVec 16) : Option (BitVec 16) :=
  if modeOut value then
    if value.toNat % 8 ≤ 4 then some (value &&& 0x800F#16) else none
  else
    if (value.toNat / 16) % 4 ≤ 2 ∧ (value.toNat / 256) % 8 ≤ 4 then some (value &&& 0x073F#16) else none

/-- The action an IN mode names is RECALL (R180). -/
def modeRecall (mode : BitVec 16) : Bool := !modeOut mode && decide ((mode.toNat / 256) % 8 = 4)

/-- The function an OUT mode names is PGM or PVW (R180). -/
def modeSource (mode : BitVec 16) : Bool := modeOut mode && (decide (mode.toNat % 8 = 1) || decide (mode.toNat % 8 = 2))

/-- A GPI_ARG value examined against the mode of its line (R180). -/
def argValue (strapHigh : Bool) (mode value : BitVec 16) : Except Reason (BitVec 16) :=
  if modeSource mode ∧ validSource strapHigh (BitVec.ofNat 8 value.toNat) = none then .error .badSource
  else if modeRecall mode ∧ 99 < value.toNat % 256 then .error .badValue
  else .ok value

/-- The value an assigned item takes when a value is stored in it, or why it is refused (R67, R180, R181). -/
def State.itemValue (s : State) (number : Nat) (value : BitVec 16) : Except Reason (BitVec 16) :=
  if 64 ≤ number ∧ number ≤ 71 then named (modeValue value)
  else if 72 ≤ number ∧ number ≤ 79 then argValue s.strapHigh (s.item (number - 8)) value
  else .ok (clampItem number value)

/-- A CONFIG's item and the value it will store (R130, R181). -/
def State.planConfig (s : State) (item : Byte) (value : BitVec 16) : Except Reason (Nat × BitVec 16) :=
  if assigned item.toNat = false ∨ itemOfAbsentBank s.strapHigh item.toNat then .error .badValue
  else (s.itemValue item.toNat value).map fun v => (item.toNat, v)

/-! ### Query arguments (R136) -/

/-- The subject of a QUERY CLAIMS: SYSTEM or a bank (R136). -/
def State.claimSubject (s : State) (argument : Byte) : Except Reason (Option BankIx) :=
  if argument = 0 then .ok none
  else if 4 < argument.toNat then .error .badValue
  else (s.bankOf argument).map some

/-- The bank of a QUERY BANK: 0 or above 4 is no value, a bank not enabled a bad bank (R136). -/
def State.queryBankOf (s : State) (argument : Byte) : Except Reason BankIx :=
  if argument = 0 ∨ 4 < argument.toNat then .error .badValue else s.bankOf argument

end Sys2Proof.Machine
end

