-- ==== Sys2Proof/Machine/Arbiter.lean ====
section
/-! DEFINITION. The receivers and the Command Arbiter: bytes to frames, frames to queues (R114 to R119), and the choice
and handing over of one request (R123, R124). -/

namespace Sys2Proof.Machine

/-! ### Counts -/

/-- One more, staying at 65535 (R114, R118, R149). -/
def countUp (n : Nat) : Nat := min (n + 1) Config.countLimit

/-! ### Receiving a frame (R114 to R118) -/

/-- The frame being received is discarded and counted, and the receiver hunts again (R114). -/
def Link.discardFrame (k : Link) : Link := { k with receiver := .hunting, frameErrors := countUp k.frameErrors }

/-- The LEVER waiting in a TAKE queue for the bank number of another, replaced in its place (R117). -/
def replaceLever (r : Request) : List Request → List Request
  | [] => []
  | x :: rest => if x.body.leverBank = r.body.leverBank then r :: rest else x :: replaceLever r rest

/-- A request is a LEVER that finds a LEVER for its bank number waiting (R117). -/
def leverWaits (r : Request) (queue : List Request) : Bool :=
  r.body.leverBank.isSome && queue.any fun x => x.body.leverBank == r.body.leverBank

/-- A request joins the SETUP queue, which may turn hold-off ON (R119). -/
def Link.joinSetup (now : Micros) (r : Request) (k : Link) : Link :=
  let k := { k with setupQ := k.setupQ ++ [r] }
  if k.setupQ.length = Config.holdOffAt ∧ k.holdOff = false then Link.flow now .holdOff { k with holdOff := true } else k

/-- A queue of the link is full (R118). -/
def Link.queueIsFull (k : Link) : QueueKind → Bool
  | .take => decide (Config.takePlaces ≤ k.takeQ.length)
  | .setup => decide (Config.setupPlaces ≤ k.setupQ.length)

/-- A good frame arrives (R116 to R119): a LEVER replaces the one waiting for its bank; a full queue counts an overflow
and answers QUEUEFULL when a place is uncommitted; any other request joins its queue. -/
def Link.arrive (now : Micros) (room : Bool) (r : Request) (k : Link) : Link :=
  if leverWaits r k.takeQ then { k with takeQ := replaceLever r k.takeQ }
  else if k.queueIsFull r.body.queue then
    let k := { k with overflow := countUp k.overflow }
    if room then Link.place now (.refuse r.tag r.body.code .queueFull none) k else k
  else match r.body.queue with
    | .take => { k with takeQ := k.takeQ ++ [r] }
    | .setup => Link.joinSetup now r k

/-- The request a good frame carries, from its bytes from LEN to the last CRC byte (R116). -/
def requestOf (checked : List Byte) : Request :=
  { tag := (checked.getD 2 0)
    body := parseBody (checked.getD 1 0) ((checked.drop 3).take (checked.length - 5)) }

/-- The CRC of a whole frame is good: the last two bytes are the CRC-16 of those before them after the start byte
(R115). `checked` is the frame without its start byte. -/
def crcGood (checked : List Byte) : Bool :=
  let body := checked.take (checked.length - 2)
  decide ((crc16 body).toNat = fromBytes (checked.drop (checked.length - 2)))

/-- The receiver takes one byte of an UP link at the moment `now` (R114 to R116). `room` tells whether the transmit
queue has an uncommitted place. -/
def Link.takeByte (now : Micros) (room : Bool) (y : RxByte) (k : Link) : Link :=
  match k.receiver with
  | .hunting =>
    if y.data = 0xA5 then
      if y.stop then { k with receiver := .inFrame [y.data] now } else k.discardFrame
    else k
  | .inFrame got _ =>
    if !y.stop then k.discardFrame
    else
      let frame := got ++ [y.data]
      let length := (frame.getD 1 0).toNat
      if frame.length < 2 then { k with receiver := .inFrame frame now }
      else if length < 2 ∨ 60 < length then k.discardFrame
      else if frame.length < length + 4 then { k with receiver := .inFrame frame now }
      else if crcGood (frame.drop 1) then
        Link.arrive now room (requestOf (frame.drop 1)) { k with receiver := .hunting }
      else k.discardFrame

/-- A frame in which more than 1 ms has passed since its last byte is discarded (R114). -/
def Link.checkGap (now : Micros) (k : Link) : Link :=
  match k.receiver with
  | .inFrame _ last => if Config.gapTime < now - last then k.discardFrame else k
  | .hunting => k

/-- A byte arrives on a link `dt` microseconds on: a DOWN link discards it without counting it (R112, R114). -/
def State.byteIn (s : State) (l : LinkIx) (y : RxByte) (dt : Micros) : State :=
  let s := s.after dt
  let room := decide (0 < s.uncommitted l)
  s.modLink l fun k => if k.up then Link.takeByte s.now room y (Link.checkGap s.now k) else k

/-! ### The Arbiter (R123, R124) -/

/-- The general places a request may commit when served (R123). -/
def Body.need : Body → Nat
  | .cut mask _ | .auto mask _ | .hold mask _ => 1 + (maskBanks mask.toNat).length
  | .select _ _ _ _ | .keyCut _ _ _ _ | .keySetup _ _ _ _ _ _ _ _ _ _ | .transSetup _ _ _ _ _ _ _ _ _ _
  | .layers _ _ _ | .recallEffect _ _ _ => 2
  | .store _ _ | .saveConfig => 2
  | .query subject _ => if subject = 3 then 3 else 1
  | _ => 1

/-- The request the Arbiter would serve next from a link, and its queue (R123). -/
def Link.candidate (ratio : Nat) (k : Link) : Option (QueueKind × Request) :=
  match k.takeQ, k.setupQ with
  | [], [] => none
  | [], r :: _ => some (.setup, r)
  | r :: _, [] => some (.take, r)
  | t :: _, r :: _ => if k.takeRun < ratio then some (.take, t) else some (.setup, r)

/-- A request the Arbiter hands to the Acceptance Unit: its link, its queue, its tag and its contents. -/
structure Offer where
  link : LinkIx
  queue : QueueKind
  tag : Byte
  body : Body
deriving DecidableEq, Repr

/-- A link's candidate, if the link is eligible (R123). -/
def State.eligible (s : State) (l : LinkIx) : Option Offer :=
  if (s.link l).up then
    match (s.link l).candidate s.takeRatio with
    | some (q, r) =>
      if r.body.need ≤ s.uncommitted l then some { link := l, queue := q, tag := r.tag, body := r.body } else none
    | none => none
  else none

/-- The links in the order the Arbiter examines them: from the link after the one it served last, and round (R124). -/
def State.arbiterOrder (s : State) : List LinkIx := (indices 6).map fun i => s.pointer + 1 + i

/-- The request the Arbiter hands over now: the candidate of the first eligible link, while the part is RUNNING (R124,
R125). -/
def State.offer (s : State) : Option Offer := if s.running then s.arbiterOrder.findSome? s.eligible else none

/-- The head of the SETUP queue leaves it, which may turn hold-off OFF (R119, R124). -/
def Link.leaveSetup (now : Micros) (k : Link) : Link :=
  let k := { k with setupQ := k.setupQ.tail, takeRun := 0 }
  if k.setupQ.length = Config.resumeAt ∧ k.holdOff = true then Link.flow now .resume { k with holdOff := false } else k

/-- The head of the TAKE queue leaves it (R124). -/
def Link.leaveTake (k : Link) : Link := { k with takeQ := k.takeQ.tail, takeRun := min (k.takeRun + 1) Config.takeRunLimit }

/-- The request leaves its queue, and the Arbiter's pointer becomes its link (R124). -/
def State.takeRequest (s : State) (o : Offer) : State :=
  { s with
    pointer := o.link
    links := upd s.links o.link fun k =>
      match o.queue with
      | .take => k.leaveTake
      | .setup => k.leaveSetup s.now }

end Sys2Proof.Machine
end

