-- ==== Sys2Proof/Machine/Items.lean ====
section
/-! DEFINITION. The storing of a configuration item (R177, R181) and what start-up does with the load's outcome (R183). -/

namespace Sys2Proof.Machine

/-- The value of an item replaced in the Configuration Table. -/
def putItem (items : Vector (BitVec 16) 88) (number : Nat) (value : BitVec 16) : Vector (BitVec 16) 88 :=
  if h : number < 88 then upd items ⟨number, h⟩ fun _ => value else items

/-- A line whose GPI_MODE is stored: the filter timer stops, the accepted level becomes the pin's, and an OUT line's
driven level is set (R177). -/
def GpiLine.modeStored (g : GpiLine) (table : Option TallyTable) (mode arg : BitVec 16) : GpiLine :=
  { g with timer := none, accepted := g.pin, driven := drivenLevel table mode arg }

/-- A line whose GPI_ARG is stored: an OUT line's driven level is set (R177). -/
def GpiLine.argStored (g : GpiLine) (table : Option TallyTable) (mode arg : BitVec 16) : GpiLine :=
  { g with driven := drivenLevel table mode arg }

/-- What the storing of a GPI item does to the lines, once the value stands (R177). -/
def State.gpiItemStored (s : State) (number : Nat) : State :=
  { s with lines := tab fun n =>
      if number = 64 + n.val then (s.line n).modeStored s.table (s.gpiMode n) (s.gpiArg n)
      else if number = 72 + n.val then (s.line n).argStored s.table (s.gpiMode n) (s.gpiArg n)
      else s.line n }

/-- A value stored in an item, acting on a GPI line as R177 gives (R181). -/
def State.storeItem (s : State) (number : Nat) (value : BitVec 16) : State :=
  State.gpiItemStored { s with items := putItem s.items number value } number

/-- An item that settles group membership: ELEMENT_GROUP or LINK_GROUPS (R107). -/
def isGroupItem (number : Nat) : Bool := decide (16 ≤ number ∧ number ≤ 40) || decide (48 ≤ number ∧ number ≤ 53)

/-- The pruning of claims after a group item has been stored (R107). -/
def State.pruneAfter (s : State) (number : Nat) : State :=
  if isGroupItem number then s.setClaims s.prunedClaims else s

/-- One item of a good block stored at start-up: an unassigned number and a refused code are skipped (R183). -/
def State.loadItem (s : State) (entry : Nat × BitVec 16) : State :=
  if assigned entry.1 then
    match s.itemValue entry.1 entry.2 with
    | .ok v => s.storeItem entry.1 v
    | .error _ => s
  else s

/-- Start-up takes the load's outcome: the items stored and CFGDEFAULT cleared, or every default left and CFGDEFAULT
set; and the part becomes RUNNING (R183). -/
def State.startUp (s : State) (outcome : Option (List (Nat × BitVec 16))) : State :=
  match outcome with
  | some entries => { entries.foldl State.loadItem s with cfgDefault := false, running := true }
  | none => { s with cfgDefault := true, running := true }

end Sys2Proof.Machine
end

