-- ==== Sys2Proof/Machine/Acceptance.lean ====
section
/-! DEFINITION. The Acceptance Unit (R126 to R137): the tests of a served request and the writes of an accepted one. -/

namespace Sys2Proof.Machine

/-- A request answered REFUSE (R132). -/
def State.refuse (s : State) (o : Offer) (reason : Reason) (holder : Option LinkIx) : State :=
  s.send o.link (.refuse o.tag o.body.code reason holder)

/-- A request answered ACCEPT (R131). -/
def State.accept (s : State) (o : Offer) (info : Accepted) : State :=
  s.send o.link (.accept o.tag o.body.code info)

/-- Writes made for a link that has gone DOWN are treated as made just before it went DOWN (R126). -/
def State.settle (s : State) (l : LinkIx) : State := if (s.link l).up then s else s.linkLost l

/-! ### Scheduled requests (R127, R128) -/

/-- What the ACCEPT of a scheduled request carries (R131). -/
def acceptedAs (due : FieldNo) : Action → Accepted
  | .keySetup _ f => .dueKey due f
  | .transSetup f => .dueTrans due f
  | _ => .due due

/-- The writes of an accepted scheduled request other than a RECALL (R100, R71, R131). -/
def State.schedulePlan (s : State) (o : Offer) (p : Plan) (lead : Byte) : State :=
  let due := s.dueField lead.toNat
  (State.accept ((s.useElements o.link p.elements).insertAction due (.link o.link o.tag) p.banks p.action) o
    (acceptedAs due p.action)).settle o.link

/-- A scheduled request other than a RECALL served: values, elements, room (R126). -/
def State.serveScheduled (s : State) (o : Offer) (plan : Except Reason Plan) (lead : Byte) : State :=
  match plan with
  | .error reason => s.refuse o reason none
  | .ok p =>
    match s.elementsRefusal o.link p.elements with
    | some (reason, holder) => s.refuse o reason holder
    | none => if s.freePlaces < p.banks.length then s.refuse o .listFull none else s.schedulePlan o p lead

/-- The writes of an accepted RECALL (R85). -/
def State.scheduleRecall (s : State) (o : Offer) (b : BankIx) (register : Nat) (lead : Byte) : State :=
  let due := s.dueField lead.toNat
  (State.accept ((s.useElements o.link (bankElements b)).insertRecall due (.link o.link o.tag) b register) o
    (.due due)).settle o.link

/-- A RECALL served: values, elements, room in the list and then in the job queue (R73, R85, R126). -/
def State.serveRecall (s : State) (o : Offer) (bank register lead : Byte) : State :=
  match s.bankRegister bank register with
  | .error reason => s.refuse o reason none
  | .ok (b, r) =>
    match s.elementsRefusal o.link (bankElements b) with
    | some (reason, holder) => s.refuse o reason holder
    | none =>
      if s.freePlacesForRecall b < 1 then s.refuse o .listFull none
      else if Config.jobPlaces ≤ s.jobsBesideRecall b then s.refuse o .memBusy none
      else s.scheduleRecall o b r lead

/-! ### LEVER (R101, R129) -/

/-- The lever register of a bank written (R39). -/
def State.writeLever (s : State) (l : LinkIx) (b : BankIx) (position : Nat) : State :=
  { s with banks := upd s.banks b fun k => { k with lever := some { position := clampTen position, writer := l } } }

/-- A LEVER served: the claim outcome first, then the lever register, and no reply (R101, R129). -/
def State.serveLever (s : State) (o : Offer) (bank : Byte) (position : Nat) : State :=
  match s.bankOf bank with
  | .error reason => s.refuse o reason none
  | .ok b =>
    match s.elementsRefusal o.link [transElement b] with
    | some (reason, holder) => s.refuse o reason holder
    | none => ((s.useElements o.link [transElement b]).writeLever o.link b position).settle o.link

/-! ### CLAIM, RELEASE, BREAK (R102 to R104) -/

/-- The LOCK that a CLAIM of link `p` leaves (R102). -/
def lockFor (p : LinkIx) : Claim := { holder := p, lock := true, age := 0, orphaned := false }

/-- A CLAIM served (R102). -/
def State.serveClaim (s : State) (o : Offer) (element : Byte) : State :=
  match s.elementOf element with
  | .error reason => s.refuse o reason none
  | .ok e =>
    match s.claimRefusal o.link e with
    | some (reason, holder) => s.refuse o reason holder
    | none => (State.accept (s.setClaim e (some (lockFor o.link))) o (.element e)).settle o.link

/-- A RELEASE served (R103). -/
def State.serveRelease (s : State) (o : Offer) (element : Byte) : State :=
  match s.elementOf element with
  | .error reason => s.refuse o reason none
  | .ok e =>
    if claimHolder (s.claim e) = some o.link then State.accept (s.setClaim e none) o (.element e)
    else s.refuse o .notHolder none

/-- A BREAK served (R104). -/
def State.serveBreak (s : State) (o : Offer) (element : Byte) : State :=
  match s.elementOf element with
  | .error reason => s.refuse o reason none
  | .ok e =>
    if !s.member o.link e then s.refuse o .noGroup none
    else match s.claim e with
      | none => s.refuse o .notLocked none
      | some c =>
        if !c.lock then s.refuse o .notLocked none
        else if !c.orphaned then s.refuse o .locked (some c.holder)
        else State.accept (s.setClaim e none) o (.element e)

/-! ### STORE and SAVE-CONFIG (R130, R167, R170) -/

/-- A job queued (R161). -/
def State.queueJob (s : State) (j : Job) : State := { s with engine := s.engine.enqueue s.now s.items j }

/-- A STORE served: values, group only, room in the job queue (R95, R130, R167). -/
def State.serveStore (s : State) (o : Offer) (bank register : Byte) : State :=
  match s.bankRegister bank register with
  | .error reason => s.refuse o reason none
  | .ok (b, r) =>
    if !s.member o.link (transElement b) then s.refuse o .noGroup none
    else if Config.jobPlaces ≤ s.engine.jobs.length then s.refuse o .memBusy none
    else State.accept (s.queueJob (.store o.link o.tag b r (s.published b).snapshot)) o (.register r)

/-- A SAVE-CONFIG served: SYSTEM, then room in the job queue (R95, R130). -/
def State.serveSave (s : State) (o : Offer) : State :=
  match s.elementsRefusal o.link [systemElement] with
  | some (reason, holder) => s.refuse o reason holder
  | none =>
    if Config.jobPlaces ≤ s.engine.jobs.length then s.refuse o .memBusy none
    else (State.accept ((s.useElements o.link [systemElement]).queueJob (.save o.link o.tag)) o .plain).settle o.link

/-! ### CANCEL (R89) -/

/-- An entry a CANCEL of link `l` names: of the link's own origin, with the tag (R89). -/
def Entry.cancelledBy (l : LinkIx) (tag : Byte) (e : Entry) : Bool := e.origin == .link l tag

/-- The entries of a link with a tag removed, with their recall jobs and staged records (R89). -/
def State.cancel (s : State) (l : LinkIx) (tag : Byte) : State :=
  let gone := s.schedule.filter (Entry.cancelledBy l tag)
  let recalled := (indices 4).filter fun b => gone.any (Entry.isRecallOf b)
  { s with
    schedule := s.schedule.filter fun e => !e.cancelledBy l tag
    engine := recalled.foldl (fun g b => g.dropRecall s.now s.items b) s.engine
    banks := tab fun b => if recalled.contains b then { s.bank b with staging := none } else s.bank b }

/-- A CANCEL served (R89). -/
def State.serveCancel (s : State) (o : Offer) (tag : Byte) : State :=
  let n := (s.schedule.filter (Entry.cancelledBy o.link tag)).length
  if n = 0 then s.refuse o .notFound none else State.accept (s.cancel o.link tag) o (.count n)

/-! ### CONFIG (R181) -/

/-- A CONFIG served: the claim on SYSTEM first, then the value, then the pruning (R107, R181). -/
def State.serveConfig (s : State) (o : Offer) (item : Byte) (value : BitVec 16) : State :=
  match s.planConfig item value with
  | .error reason => s.refuse o reason none
  | .ok (number, v) =>
    match s.elementsRefusal o.link [systemElement] with
    | some (reason, holder) => s.refuse o reason holder
    | none =>
      (State.accept (((s.useElements o.link [systemElement]).storeItem number v).pruneAfter number) o
        (.item number v)).settle o.link

/-! ### Soft RESET (R137, R184) -/

/-- A link at a soft RESET: UP or DOWN, its PRESENT measurement and the frame on its line are kept (R125). -/
def Link.softReset (k : Link) : Link :=
  { k with
    receiver := .hunting
    takeQ := []
    setupQ := []
    holdOff := false
    slot := none
    tx := []
    takeRun := 0
    frameErrors := 0
    overflow := 0 }

/-- The part's running state returned to where power-on leaves it, at one moment (R137). The Configuration Table, the
strap sample, CFGDEFAULT, RUNNING and the reference are kept (R184). -/
def State.softReset (s : State) : State :=
  { s with
    schedule := []
    nextSet := 0
    sweep := none
    banks := Vector.replicate 4 Bank.default
    claims := Vector.replicate 25 none
    links := tab fun l => (s.link l).softReset
    pointer := 5
    ref := { s.ref with counter := 0, spurious := 0 }
    table := none
    gathering := none
    paramPort := { s.paramPort with waiting := [] }
    tallyPort := { s.tallyPort with waiting := [] }
    engine := s.engine.emptied
    lines := tab fun n =>
      { s.line n with
        edge := false
        dropped := false
        driven := drivenLevel none (s.gpiMode n) (s.gpiArg n) } }

/-- A RESET served: its ACCEPT stays in the emptied transmit queue of its link (R125, R137). -/
def State.serveReset (s : State) (o : Offer) : State :=
  match s.elementsRefusal o.link [systemElement] with
  | some (reason, holder) => s.refuse o reason holder
  | none => s.softReset.accept o .plain

/-! ### Queries (R136) -/

/-- The subject of a QUERY is one of the seven (R136, R139). -/
def knownSubject (subject : Byte) : Bool := decide (1 ≤ subject.toNat ∧ subject.toNat ≤ 7)

/-- A QUERY BANK served (R136). -/
def State.serveQueryBank (s : State) (o : Offer) (argument : Byte) : State :=
  match s.queryBankOf argument with
  | .error reason => s.refuse o reason none
  | .ok b => s.send o.link (.bankState b (s.bank b).publishedFor (s.published b))

/-- A QUERY CLAIMS served (R109). -/
def State.serveQueryClaims (s : State) (o : Offer) (argument : Byte) : State :=
  match s.claimSubject argument with
  | .error reason => s.refuse o reason none
  | .ok subject => s.send o.link (claimReport s.claims subject)

/-- The entries of a SCHEDULE-LIST answer, up to 12 a report, at least one report (R91). -/
def reportChunks (es : List Entry) : List (List Entry) :=
  (List.range (max 1 ((es.length + 11) / 12))).map fun i => (es.drop (12 * i)).take 12

/-- The SCHEDULE-LIST reports that answer a QUERY SCHEDULE (R91). -/
def State.scheduleReports (s : State) (o : Offer) : List TxFrame :=
  let chunks := reportChunks (s.schedule.filter fun e => e.origin.isLink o.link)
  chunks.zipIdx.map fun c => .scheduleList o.tag c.2 chunks.length s.ref.counter c.1

/-- A QUERY SCHEDULE served: all its reports are queued together (R91). -/
def State.serveQuerySchedule (s : State) (o : Offer) : State :=
  s.modLink o.link fun k => (s.scheduleReports o).foldl (fun k f => Link.place s.now f k) k

/-- A QUERY LINK served (R136). -/
def State.serveQueryLink (s : State) (o : Offer) : State :=
  let k := s.link o.link
  s.send o.link (.linkCounts o.tag o.link k.up k.holdOff k.takeQ.length k.setupQ.length k.tx.length
    (s.promised o.link) k.frameErrors k.overflow)

/-- One line as GPI-STATE shows it (R178). -/
def State.gpiReport (s : State) (n : LineIx) : GpiReport :=
  let g := s.line n
  { out := modeOut (s.gpiMode n)
    level := if modeOut (s.gpiMode n) then g.driven.getD false else g.accepted
    pin := g.pin
    edge := g.edge
    dropped := g.dropped }

/-- Every line's edge and dropped flags cleared (R136, R178). -/
def State.clearGpiFlags (s : State) : State :=
  { s with lines := tab fun n => { s.line n with edge := false, dropped := false } }

/-- A QUERY GPI served; with the clear option the flags are cleared once the report is built (R136, R178). -/
def State.serveQueryGpi (s : State) (o : Offer) (argument : Byte) : State :=
  if 1 < argument.toNat then s.refuse o .badValue none
  else State.send (if argument = 1 then s.clearGpiFlags else s) o.link (.gpiState o.tag ((indices 8).map s.gpiReport))

/-- A QUERY CONFIG served: the value the item holds, of a bank not enabled too (R136). -/
def State.serveQueryConfig (s : State) (o : Offer) (argument : Byte) : State :=
  if assigned argument.toNat then s.send o.link (.configValue o.tag argument.toNat (s.item argument.toNat))
  else s.refuse o .badValue none

/-- A QUERY FIELD served (R136, R158). -/
def State.serveQueryField (s : State) (o : Offer) : State :=
  s.send o.link (.fieldStatus o.tag s.ref.counter s.ref.locked s.cfgDefault s.running s.ref.period s.ref.spurious)

end Sys2Proof.Machine
end

