-- ==== Sys2Proof/Machine/Gpi.lean ====
section
/-! DEFINITION. GPI inputs (R173 to R175, R180): the filter, accepted edges and the actions of lines. -/

namespace Sys2Proof.Machine

/-- The filter time of an IN line (R173, R180). -/
def filterTime (mode : BitVec 16) : Micros := (mode.toNat % 16) * Config.filterUnit

/-- An accepted edge to a level matches the mode's active edge (R174, R180). -/
def edgeMatches (mode : BitVec 16) (level : Bool) : Bool :=
  match (mode.toNat / 16) % 4 with
  | 0 => level
  | 1 => !level
  | 2 => true
  | _ => false

/-- An element is held by a LOCK, orphaned or not (R108). -/
def State.lockedElement (s : State) (e : ElemIx) : Bool :=
  match s.claim e with
  | some c => c.lock
  | none => false

/-- The dropped flag of a line set: its action is dropped whole (R175). -/
def State.dropAction (s : State) (n : LineIx) : State := s.modLine n fun g => { g with dropped := true }

/-- The enabled banks of a line's bank mask (R175, R180). -/
def State.gpiBanks (s : State) (n : LineIx) : List BankIx :=
  (maskBanks ((s.gpiArg n).toNat % 16)).filter s.enabled

/-- A line's CUT, AUTO or HOLD (R108, R174, R175). -/
def State.gpiTake (s : State) (n : LineIx) (action : Action) : State :=
  let bs := s.gpiBanks n
  if bs.isEmpty then s
  else if (bs.any fun b => s.lockedElement (transElement b)) || decide (s.freePlaces < bs.length) then s.dropAction n
  else s.insertAction (s.dueField (s.gpiLead n)) (.line n) bs action

/-- A line's RECALL: a bank not enabled or a register above 99 names no bank (R108, R175, R180). -/
def State.gpiRecall (s : State) (n : LineIx) : State :=
  let register := (s.gpiArg n).toNat % 256
  match s.bankOf (BitVec.ofNat 8 ((s.gpiArg n).toNat / 256)) with
  | .error _ => s
  | .ok b =>
    if 99 < register then s
    else if (bankElements b).any s.lockedElement || decide (s.freePlacesForRecall b < 1) ||
        decide (Config.jobPlaces ≤ s.jobsBesideRecall b) then s.dropAction n
    else s.insertRecall (s.dueField (s.gpiLead n)) (.line n) b register

/-- The action of an accepted active edge on a line (R175, R180). -/
def State.gpiAction (s : State) (n : LineIx) : State :=
  match ((s.gpiMode n).toNat / 256) % 8 with
  | 1 => s.gpiTake n .cut
  | 2 => s.gpiTake n .auto
  | 3 => s.gpiTake n .hold
  | 4 => s.gpiRecall n
  | _ => s

/-- The pin's level becomes the accepted level as an accepted edge; an active edge sets the edge flag and performs the
line's action (R173, R174). -/
def State.acceptEdge (s : State) (n : LineIx) : State :=
  let level := (s.line n).pin
  let active := edgeMatches (s.gpiMode n) level
  let s := s.modLine n fun g => { g with accepted := level, timer := none, edge := g.edge || active }
  if active then s.gpiAction n else s

/-- The pin of a line takes a level. On an IN line a pin that differs from the accepted level starts the filter timer,
or lets it run on, and one that agrees stops it; with filter 0 the level is accepted at once. An OUT line runs no
filter (R173). -/
def State.pinChange (s : State) (n : LineIx) (level : Bool) : State :=
  let g := s.line n
  let mode := s.gpiMode n
  if modeOut mode then s.modLine n fun g => { g with pin := level }
  else if level = g.accepted then s.modLine n fun g => { g with pin := level, timer := none }
  else if filterTime mode = 0 then (s.modLine n fun g => { g with pin := level }).acceptEdge n
  else s.modLine n fun g => { g with pin := level, timer := some (g.timer.getD (s.now + filterTime mode)) }

end Sys2Proof.Machine
end

