-- ==== Sys2Proof/Machine/Reference.lean ====
section
/-! DEFINITION. The Field Reference Unit (R149 to R154) and publication (R13, R48, R155). -/

namespace Sys2Proof.Machine

/-- A field start: F rises by 1, the claims age, and target field F + 1 is announced to the Schedule (R153). -/
def State.fieldStart (s : State) : State :=
  let s := { s with ref := { s.ref with counter := s.ref.counter + 1 } }
  let s := s.setClaims (agedClaims s.claimAging s.claims)
  s.startSweep (s.ref.counter + 1)

/-- The measured period within its range (R152). -/
def clampPeriod (interval : Micros) : Micros := max Config.shortestField (min interval Config.longestField)

/-- The loss deadline that a real field start at a moment sets: the period and its quarter on (R150). -/
def lossDeadlineAt (moment period : Micros) : Micros := moment + period + period / 4

/-- A REF pulse counted as spurious (R149). -/
def FieldRef.spuriousPulse (r : FieldRef) : FieldRef := { r with spurious := countUp r.spurious }

/-- A real field start in LOCKED, with the measurement of the period when the start before it was real (R150, R152). -/
def FieldRef.realStart (r : FieldRef) (now : Micros) : FieldRef :=
  let period := if r.lastReal then clampPeriod (now - r.lastStart) else r.period
  { r with period := period, lastStart := now, lastReal := true, deadline := lossDeadlineAt now period }

/-- A relock: a real field start in FREERUN, from which nothing is measured (R151). -/
def FieldRef.relock (r : FieldRef) (now : Micros) : FieldRef :=
  { r with locked := true, lastStart := now, lastReal := true, deadline := lossDeadlineAt now r.period }

/-- An absorbed pulse moves the free-run deadline to one period after itself (R151). -/
def FieldRef.absorb (r : FieldRef) (now : Micros) : FieldRef := { r with deadline := now + r.period }

/-- A synthetic field start at the deadline; the state is or becomes FREERUN (R150, R151). -/
def FieldRef.syntheticStart (r : FieldRef) : FieldRef :=
  { r with locked := false, lastStart := r.deadline, lastReal := false, deadline := r.deadline + r.period }

/-- A synthetic field start made at the deadline (R150, R151). -/
def State.synthetic (s : State) : State :=
  State.fieldStart { s with now := max s.now s.ref.deadline, ref := s.ref.syntheticStart }

/-- A REF pulse at the moment that stands: spurious, a field start, a relock or absorbed (R149 to R151). -/
def State.pulse (s : State) : State :=
  let elapsed := s.now - s.ref.lastStart
  if elapsed < Config.shortestField then { s with ref := s.ref.spuriousPulse }
  else if s.ref.locked then State.fieldStart { s with ref := s.ref.realStart s.now }
  else if s.ref.period / 2 ≤ elapsed then State.fieldStart { s with ref := s.ref.relock s.now }
  else { s with ref := s.ref.absorb s.now }

/-- Bank `b` publishes for N: the copies, the field parameter record, and the BANK-STATE report where one is due (R13,
R48, R156). -/
def State.publishBank (s : State) (b : BankIx) (n : FieldNo) : State :=
  let k := (s.bank b).publish n (s.dwellFields b)
  { s with
    banks := upd s.banks b fun _ => k
    paramPort := s.paramPort.hand s.now (paramRecord b n k.published)
    links := if reportDue (s.published b) k.published then
        tab fun l => Link.place s.now (.bankState b n k.published) (s.link l)
      else s.links }

/-- The field update of bank `b` for N, and the Tally Resolver told of it (R47, R142, R155). -/
def State.updateBank (s : State) (b : BankIx) (n : FieldNo) : State := (s.publishBank b n).gather n b

end Sys2Proof.Machine
end

