-- ==== Sys2Proof/Machine/Memory.lean ====
section
/-! DEFINITION. The results of memory jobs and the end of an access (R86, R87, R159, R162, R166 to R171, R183). -/

namespace Sys2Proof.Machine

/-- The active job leaves the queue, and the next becomes active (R161). -/
def State.finishJob (s : State) : State :=
  { s with engine :=
      Engine.activate { s.engine with jobs := s.engine.jobs.tail, stage := none } s.now s.items }

/-- A recall job ends without staging: its entry is removed and its origin told (R87). -/
def State.recallFailed (s : State) (b : BankIx) (o : Origin) (reason : Reason) : State :=
  State.notify { s with schedule := s.schedule.filter fun e => !e.isRecallOf b } o reason (some b)

/-- A checked record is placed in its bank's staging, and the job's entry marked STAGED (R86, R166). -/
def State.recallStaged (s : State) (b : BankIx) (e : Effect) : State :=
  { s with
    schedule := s.schedule.map (markStaged b)
    banks := upd s.banks b fun k => { k with staging := some e } }

/-- The active job fails: a recall as R87 gives, a store or save with its notice, the load with no item stored (R159,
R168, R170, R183). -/
def State.jobFailed (s : State) (reason : Reason) : State :=
  match s.engine.jobs with
  | .recallEffect b _ o :: _ => s.recallFailed b o reason
  | .store l tag b _ _ :: _ => s.send l (.notice tag reason (some b))
  | .save l tag :: _ => s.send l (.notice tag reason none)
  | .load :: _ => s.startUp none
  | [] => s

/-- The active store or save has made its last write: NOTICE DONE, and a save clears CFGDEFAULT (R168, R170, R183). -/
def State.jobWritten (s : State) : State :=
  match s.engine.jobs with
  | .store l tag b _ _ :: _ => s.send l (.notice tag .done (some b))
  | .save l tag :: _ => State.send { s with cfgDefault := false } l (.notice tag .done none)
  | _ => s

/-- The active recall's record is staged. -/
def State.jobStaged (s : State) (e : Effect) : State :=
  match s.engine.jobs with
  | .recallEffect b _ _ :: _ => s.recallStaged b e
  | _ => s

/-- What an access has brought the active job to, with the port idle (R159, R163 to R171). -/
def State.carryOn (s : State) : Progress → State
  | .readOn stage a => { s with engine := s.engine.reading s.now stage a }
  | .writeOn writes => { s with engine := s.engine.writing s.now writes }
  | .failed reason => (s.jobFailed reason).finishJob
  | .staged e => (s.jobStaged e).finishJob
  | .written => s.jobWritten.finishJob
  | .loaded entries => (s.startUp entries).finishJob

/-- The access on the port ends: request is withdrawn (R159). -/
def State.portIdle (s : State) : State := { s with engine := { s.engine with port := none } }

/-- Ready ends an access that was carried to its end for an abandoned job; the next job becomes active (R162). -/
def State.drained (s : State) : State :=
  { s with engine := Engine.activate { s.engine with port := none } s.now s.items }

/-- Ready arrives in time with a byte on the data path: it is the ready of the access on the port, whichever job that
access is of (R159; assumption log 31). -/
def State.ready (s : State) (data : Byte) : State :=
  match s.engine.port, s.engine.stage with
  | none, _ => s
  | some _, none => s.drained
  | some access, some stage => s.portIdle.carryOn (advance s.strapHigh access data stage)

/-- The 64 µs of an access expire: the access fails, and its job with MEMFAULT (R159). -/
def State.expired (s : State) : State :=
  match s.engine.port, s.engine.stage with
  | none, _ => s
  | some access, none => (s.reach (access.raised + Config.memoryTime)).drained
  | some access, some _ => ((s.reach (access.raised + Config.memoryTime)).portIdle.jobFailed .memFault).finishJob

/-- The access on the port has failed before `moment`: its 64 µs have expired and no ready has come (R159). -/
def State.accessFailedBefore (s : State) (moment : Micros) : Bool :=
  match s.engine.port with
  | some access => decide (access.raised + Config.memoryTime < moment)
  | none => false

/-- A ready `dt` microseconds on: one that comes after the access on the port has failed is ignored, and the failure
stands at its own moment (R159; assumption log 31). -/
def State.readyIn (s : State) (data : Byte) (dt : Micros) : State :=
  if s.accessFailedBefore (s.now + dt) then s.expired.reach (s.now + dt) else (s.after dt).ready data

end Sys2Proof.Machine
end

