-- ==== Sys2Proof/Machine/PowerCommands.lean ====
section
/-! DEFINITION. The meaning of POWER_ON (R182). -/

namespace Sys2Proof.Machine

/-- What a command answers. -/
abbrev Answer := Host.Outcome State Fault Refusal

/-- POWER_ON (R182): the strap is sampled, every item and unit takes its power-on value, the part is STARTING and the
configuration load is active. The levels on the PRESENT inputs and GPI pins are the outside's and stay. -/
def execPowerOn (strapHigh : Bool) (s : State) : Answer :=
  .next (State.atPowerOn s.pending strapHigh (tab fun l => (s.link l).present) (tab fun n => (s.line n).pin))

end Sys2Proof.Machine
end

