-- ==== Sys2Proof/Machine/LinkCommands.lean ====
section
/-! DEFINITION. The meanings of the panel links' events (R112 to R122). A command whose event the state does not offer
has no effect (assumption log 1). -/

namespace Sys2Proof.Machine

/-- PRESENT_CHANGE (R112): a change of PRESENT starts the 10 ms measurement afresh, or ends it when the input agrees
again with the link's state. -/
def execPresentChange (l : LinkIx) (asserted : Bool) (dt : Micros) (s : State) : Answer :=
  let s := s.after dt
  .next (s.modLink l fun k =>
    if asserted = k.present then k
    else { k with present := asserted, since := if asserted = k.up then none else some s.now })

/-- The 10 ms of a link have run toward a state other than its own (R112). -/
def Link.debounced (k : Link) (up : Bool) : Option Micros :=
  if k.present = up ∧ k.up ≠ up then k.since.map (· + Config.debounceTime) else none

/-- LINK_UP (R106, R112): a DOWN link goes UP and its orphaned locks are restored. -/
def execLinkUp (l : LinkIx) (s : State) : Answer :=
  match (s.link l).debounced true with
  | some moment =>
    let t := (s.reach moment).modLink l fun k => { k with up := true, since := none }
    .next (t.setClaims (restoredClaims l t.claims))
  | none => .next s

/-- A link goes DOWN: its receiver hunts, and its queues, slot, hold-off state and take-run counter are cleared, the
frame on its line cut off. Its counts are kept (R113). -/
def Link.goDown (k : Link) : Link :=
  { k with
    up := false
    since := none
    receiver := .hunting
    takeQ := []
    setupQ := []
    holdOff := false
    slot := none
    tx := []
    line := none
    takeRun := 0 }

/-- LINK_DOWN (R106, R113). -/
def execLinkDown (l : LinkIx) (s : State) : Answer :=
  match (s.link l).debounced false with
  | some moment => .next (((s.reach moment).modLink l Link.goDown).linkLost l)
  | none => .next s

/-- BYTE_ARRIVAL (R114). -/
def execByteArrival (l : LinkIx) (byte : RxByte) (dt : Micros) (s : State) : Answer := .next (s.byteIn l byte dt)

/-- The bytes of a frame arriving back to back, the first `dt` microseconds on. -/
def State.bytesIn (s : State) (l : LinkIx) : List RxByte → Micros → State
  | [], dt => s.after dt
  | [y], dt => s.byteIn l y dt
  | y :: z :: rest, dt => State.bytesIn (s.byteIn l y dt) l (z :: rest) Config.linkByteTime

/-- FRAME_ARRIVAL (R114 to R119): a frame's bytes arrive whole. -/
def execFrameArrival (l : LinkIx) (bytes : List RxByte) (dt : Micros) (s : State) : Answer := .next (s.bytesIn l bytes dt)

/-- INTERBYTE_TIMEOUT (R114): the 1 ms after a byte of a frame expires. -/
def execInterbyteTimeout (l : LinkIx) (s : State) : Answer :=
  match (s.link l).receiver with
  | .inFrame _ last => .next ((s.reach (last + Config.gapTime)).modLink l Link.discardFrame)
  | .hunting => .next s

/-- TRANSMIT_END (R122): the frame on the line ends, and the slot's frame or the queue's head begins. -/
def execTransmitEnd (l : LinkIx) (s : State) : Answer :=
  match (s.link l).line with
  | some (f, began) =>
    let s := s.reach (began + lineTime Config.linkRate f.onLine)
    .next (s.modLink l fun k => Link.kick s.now { k with line := none })
  | none => .next s

end Sys2Proof.Machine
end

