-- ==== Sys2Proof/Machine/RequestCommands.lean ====
section
/-! DEFINITION. The meanings of the served requests (R116, R123 to R137). Each acts when the request that the Arbiter
hands over is of its kind; the request leaves its queue and is served whole. When it is of another kind, or there is
none, the command has no effect (assumption log 1). -/

namespace Sys2Proof.Machine

/-- MALFORMED_FRAME (R116). -/
def execMalformedFrame (s : State) : Answer :=
  match s.offer with
  | some ⟨l, q, tag, .malformed t fault⟩ =>
    .next ((s.takeRequest ⟨l, q, tag, .malformed t fault⟩).refuse ⟨l, q, tag, .malformed t fault⟩ fault none)
  | _ => .next s

/-- SELECT (R127). -/
def execSelect (s : State) : Answer :=
  match s.offer with
  | some ⟨l, q, tag, .select bank bus source lead⟩ =>
    let o : Offer := ⟨l, q, tag, .select bank bus source lead⟩
    .next ((s.takeRequest o).serveScheduled o (s.planSelect bank bus source) lead)
  | _ => .next s

/-- CUT (R127). -/
def execCut (s : State) : Answer :=
  match s.offer with
  | some ⟨l, q, tag, .cut mask lead⟩ =>
    let o : Offer := ⟨l, q, tag, .cut mask lead⟩
    .next ((s.takeRequest o).serveScheduled o (s.planMask mask .cut) lead)
  | _ => .next s

/-- AUTO (R127). -/
def execAuto (s : State) : Answer :=
  match s.offer with
  | some ⟨l, q, tag, .auto mask lead⟩ =>
    let o : Offer := ⟨l, q, tag, .auto mask lead⟩
    .next ((s.takeRequest o).serveScheduled o (s.planMask mask .auto) lead)
  | _ => .next s

/-- HOLD (R127). -/
def execHold (s : State) : Answer :=
  match s.offer with
  | some ⟨l, q, tag, .hold mask lead⟩ =>
    let o : Offer := ⟨l, q, tag, .hold mask lead⟩
    .next ((s.takeRequest o).serveScheduled o (s.planMask mask .hold) lead)
  | _ => .next s

/-- LEVER (R101, R129). -/
def execLever (s : State) : Answer :=
  match s.offer with
  | some ⟨l, q, tag, .lever bank position⟩ =>
    let o : Offer := ⟨l, q, tag, .lever bank position⟩
    .next ((s.takeRequest o).serveLever o bank position)
  | _ => .next s

/-- KEY_CUT (R127). -/
def execKeyCut (s : State) : Answer :=
  match s.offer with
  | some ⟨l, q, tag, .keyCut bank keyer onOff lead⟩ =>
    let o : Offer := ⟨l, q, tag, .keyCut bank keyer onOff lead⟩
    .next ((s.takeRequest o).serveScheduled o (s.planKeyCut bank keyer onOff) lead)
  | _ => .next s

/-- KEY_SETUP (R128). -/
def execKeySetup (s : State) : Answer :=
  match s.offer with
  | some ⟨l, q, tag, .keySetup bank keyer mask fill key kind clip gain invert lead⟩ =>
    let o : Offer := ⟨l, q, tag, .keySetup bank keyer mask fill key kind clip gain invert lead⟩
    .next ((s.takeRequest o).serveScheduled o (s.planKeySetup bank keyer mask fill key kind clip gain invert) lead)
  | _ => .next s

/-- TRANS_SETUP (R128). -/
def execTransSetup (s : State) : Answer :=
  match s.offer with
  | some ⟨l, q, tag, .transSetup bank mask kind rate pattern direction softness width colour lead⟩ =>
    let o : Offer := ⟨l, q, tag, .transSetup bank mask kind rate pattern direction softness width colour lead⟩
    .next ((s.takeRequest o).serveScheduled o
      (s.planTransSetup bank mask kind rate pattern direction softness width colour) lead)
  | _ => .next s

/-- LAYERS (R127). -/
def execLayers (s : State) : Answer :=
  match s.offer with
  | some ⟨l, q, tag, .layers bank set lead⟩ =>
    let o : Offer := ⟨l, q, tag, .layers bank set lead⟩
    .next ((s.takeRequest o).serveScheduled o (s.planLayers bank set) lead)
  | _ => .next s

/-- CLAIM (R102). -/
def execClaim (s : State) : Answer :=
  match s.offer with
  | some ⟨l, q, tag, .claim element⟩ =>
    .next ((s.takeRequest ⟨l, q, tag, .claim element⟩).serveClaim ⟨l, q, tag, .claim element⟩ element)
  | _ => .next s

/-- RELEASE (R103). -/
def execRelease (s : State) : Answer :=
  match s.offer with
  | some ⟨l, q, tag, .release element⟩ =>
    .next ((s.takeRequest ⟨l, q, tag, .release element⟩).serveRelease ⟨l, q, tag, .release element⟩ element)
  | _ => .next s

/-- BREAK (R104). -/
def execBreakLock (s : State) : Answer :=
  match s.offer with
  | some ⟨l, q, tag, .breakLock element⟩ =>
    .next ((s.takeRequest ⟨l, q, tag, .breakLock element⟩).serveBreak ⟨l, q, tag, .breakLock element⟩ element)
  | _ => .next s

/-- RECALL (R85). -/
def execRecall (s : State) : Answer :=
  match s.offer with
  | some ⟨l, q, tag, .recallEffect bank register lead⟩ =>
    let o : Offer := ⟨l, q, tag, .recallEffect bank register lead⟩
    .next ((s.takeRequest o).serveRecall o bank register lead)
  | _ => .next s

/-- STORE (R167). -/
def execStore (s : State) : Answer :=
  match s.offer with
  | some ⟨l, q, tag, .store bank register⟩ =>
    .next ((s.takeRequest ⟨l, q, tag, .store bank register⟩).serveStore ⟨l, q, tag, .store bank register⟩ bank register)
  | _ => .next s

/-- CANCEL (R89). -/
def execCancel (s : State) : Answer :=
  match s.offer with
  | some ⟨l, q, tag, .cancel named⟩ =>
    .next ((s.takeRequest ⟨l, q, tag, .cancel named⟩).serveCancel ⟨l, q, tag, .cancel named⟩ named)
  | _ => .next s

/-- CONFIG (R181). -/
def execConfig (s : State) : Answer :=
  match s.offer with
  | some ⟨l, q, tag, .config item value⟩ =>
    .next ((s.takeRequest ⟨l, q, tag, .config item value⟩).serveConfig ⟨l, q, tag, .config item value⟩ item value)
  | _ => .next s

/-- SAVE_CONFIG (R170). -/
def execSaveConfig (s : State) : Answer :=
  match s.offer with
  | some ⟨l, q, tag, .saveConfig⟩ => .next ((s.takeRequest ⟨l, q, tag, .saveConfig⟩).serveSave ⟨l, q, tag, .saveConfig⟩)
  | _ => .next s

/-- RESET (R137). -/
def execReset (s : State) : Answer :=
  match s.offer with
  | some ⟨l, q, tag, .reset⟩ => .next ((s.takeRequest ⟨l, q, tag, .reset⟩).serveReset ⟨l, q, tag, .reset⟩)
  | _ => .next s

/-- A QUERY that the Arbiter hands over, served when its subject is the one given. A QUERY of an unknown subject is
refused BADVALUE by whichever query command meets it (R136; assumption log 13). -/
def State.queryOf (s : State) (subject : Byte) (serve : State → Offer → Byte → State) : State :=
  match s.offer with
  | some ⟨l, q, tag, .query sub argument⟩ =>
    let o : Offer := ⟨l, q, tag, .query sub argument⟩
    if sub = subject then serve (s.takeRequest o) o argument
    else if knownSubject sub then s
    else (s.takeRequest o).refuse o .badValue none
  | _ => s

/-- QUERY_BANK (R136). -/
def execQueryBank (s : State) : Answer := .next (s.queryOf 1 fun t o a => t.serveQueryBank o a)

/-- QUERY_CLAIMS (R109). -/
def execQueryClaims (s : State) : Answer := .next (s.queryOf 2 fun t o a => t.serveQueryClaims o a)

/-- QUERY_SCHEDULE (R91). -/
def execQuerySchedule (s : State) : Answer := .next (s.queryOf 3 fun t o _ => t.serveQuerySchedule o)

/-- QUERY_LINK (R136). -/
def execQueryLink (s : State) : Answer := .next (s.queryOf 4 fun t o _ => t.serveQueryLink o)

/-- QUERY_GPI (R178). -/
def execQueryGpi (s : State) : Answer := .next (s.queryOf 5 fun t o a => t.serveQueryGpi o a)

/-- QUERY_CONFIG (R136). -/
def execQueryConfig (s : State) : Answer := .next (s.queryOf 6 fun t o a => t.serveQueryConfig o a)

/-- QUERY_FIELD (R158). -/
def execQueryField (s : State) : Answer := .next (s.queryOf 7 fun t o _ => t.serveQueryField o)

end Sys2Proof.Machine
end

