-- ==== Sys2Proof/Machine/FieldCommands.lean ====
section
/-! DEFINITION. The meanings of the field's events: the reference (R149 to R153), the sweep (R76 to R84), the field
update (R47) and the output ports (R146, R157). -/

namespace Sys2Proof.Machine

/-- REF_PULSE (R149 to R151). -/
def execRefPulse (dt : Micros) (s : State) : Answer := .next (s.after dt).pulse

/-- LOSS_DEADLINE (R150): the loss deadline of LOCKED is reached. -/
def execLossDeadline (s : State) : Answer := .next (if s.ref.locked then s.synthetic else s)

/-- FREERUN_DEADLINE (R151): the free-run deadline is reached. -/
def execFreerunDeadline (s : State) : Answer := .next (if s.ref.locked then s else s.synthetic)

/-- SWEEP_ENTRY (R77): the sweep deals with the next due entry, if it stands outside a linked set; a sweep left with no
due entry by another unit ends (R84; assumption log 12). -/
def execSweepEntry (s : State) : Answer :=
  match s.sweep with
  | none => .next s
  | some w =>
    match nextDue w.target s.schedule with
    | none => .next (s.endSweep w.target)
    | some e =>
      match e.linked with
      | none => .next (s.dealEntry w e (swept s.schedule) (unswept s.schedule).tail).settleSweep
      | some _ => .next s

/-- SWEEP_LINKED_SET (R83): the sweep deals with the linked set whose first member is the next due entry. -/
def execSweepLinkedSet (s : State) : Answer :=
  match s.sweep with
  | none => .next s
  | some w =>
    match nextDue w.target s.schedule with
    | none => .next s
    | some e =>
      match e.linked with
      | none => .next s
      | some set =>
        .next (s.dealSet w (setMembers set (unswept s.schedule)) (swept s.schedule)
          (afterSet set (unswept s.schedule))).settleSweep

/-- FIELD_UPDATE (R47, R48, R142): the controller of a bank that has been told of sweep-end brings its bank to the
target field and publishes. -/
def execFieldUpdate (b : BankIx) (s : State) : Answer :=
  match (s.bank b).updateDue with
  | some n => .next (s.updateBank b n)
  | none => .next s

/-- PARAMETER_RECORD_SENT (R157). -/
def execParameterRecordSent (s : State) : Answer :=
  match s.paramPort.line with
  | some (r, began) =>
    let s := s.reach (began + lineTime Config.portRate r.onLine)
    .next { s with paramPort := s.paramPort.sent s.now }
  | none => .next s

/-- TALLY_FRAME_SENT (R146). -/
def execTallyFrameSent (s : State) : Answer :=
  match s.tallyPort.line with
  | some (f, began) =>
    let s := s.reach (began + lineTime Config.portRate f.onLine)
    .next { s with tallyPort := s.tallyPort.sent s.now }
  | none => .next s

end Sys2Proof.Machine
end

