-- ==== Sys2Proof/Machine/PortCommands.lean ====
section
/-! DEFINITION. The meanings of the memory port's events (R159) and of the GPI lines' events (R173). -/

namespace Sys2Proof.Machine

/-- MEMORY_READY (R159): ready arrives; with no access on the port, or after the access there has failed, it is
ignored. -/
def execMemoryReady (data : Byte) (dt : Micros) (s : State) : Answer := .next (s.readyIn data dt)

/-- MEMORY_TIMEOUT (R159): the 64 µs of the access on the port expire. -/
def execMemoryTimeout (s : State) : Answer := .next s.expired

/-- GPI_PIN_CHANGE (R173). -/
def execGpiPinChange (n : LineIx) (level : Bool) (dt : Micros) (s : State) : Answer :=
  .next ((s.after dt).pinChange n level)

/-- GPI_FILTER_EXPIRY (R173): a running filter timer expires, and the pin's level is accepted. -/
def execGpiFilterExpiry (n : LineIx) (s : State) : Answer :=
  match (s.line n).timer with
  | some moment => .next ((s.reach moment).acceptEdge n)
  | none => .next s

end Sys2Proof.Machine
end

