-- ==== Sys2Proof/Machine/Dispatch.lean ====
section
/-! DEFINITION. The meaning of each command. -/

namespace Sys2Proof.Machine

def exec (i : Instr) (s : State) : Host.Outcome State Fault Refusal :=
  match i with
  | .powerOn strapHigh => Sys2Proof.Machine.execPowerOn strapHigh s
  | .presentChange l asserted dt => Sys2Proof.Machine.execPresentChange l asserted dt s
  | .linkUp l => Sys2Proof.Machine.execLinkUp l s
  | .linkDown l => Sys2Proof.Machine.execLinkDown l s
  | .frameArrival l bytes dt => Sys2Proof.Machine.execFrameArrival l bytes dt s
  | .interbyteTimeout l => Sys2Proof.Machine.execInterbyteTimeout l s
  | .transmitEnd l => Sys2Proof.Machine.execTransmitEnd l s
  | .malformedFrame => Sys2Proof.Machine.execMalformedFrame s
  | .select => Sys2Proof.Machine.execSelect s
  | .cut => Sys2Proof.Machine.execCut s
  | .auto => Sys2Proof.Machine.execAuto s
  | .hold => Sys2Proof.Machine.execHold s
  | .lever => Sys2Proof.Machine.execLever s
  | .keyCut => Sys2Proof.Machine.execKeyCut s
  | .keySetup => Sys2Proof.Machine.execKeySetup s
  | .transSetup => Sys2Proof.Machine.execTransSetup s
  | .layers => Sys2Proof.Machine.execLayers s
  | .claim => Sys2Proof.Machine.execClaim s
  | .release => Sys2Proof.Machine.execRelease s
  | .breakLock => Sys2Proof.Machine.execBreakLock s
  | .recallEffect => Sys2Proof.Machine.execRecall s
  | .store => Sys2Proof.Machine.execStore s
  | .cancel => Sys2Proof.Machine.execCancel s
  | .config => Sys2Proof.Machine.execConfig s
  | .saveConfig => Sys2Proof.Machine.execSaveConfig s
  | .reset => Sys2Proof.Machine.execReset s
  | .queryBank => Sys2Proof.Machine.execQueryBank s
  | .queryClaims => Sys2Proof.Machine.execQueryClaims s
  | .querySchedule => Sys2Proof.Machine.execQuerySchedule s
  | .queryLink => Sys2Proof.Machine.execQueryLink s
  | .queryGpi => Sys2Proof.Machine.execQueryGpi s
  | .queryConfig => Sys2Proof.Machine.execQueryConfig s
  | .queryField => Sys2Proof.Machine.execQueryField s
  | .refPulse dt => Sys2Proof.Machine.execRefPulse dt s
  | .lossDeadline => Sys2Proof.Machine.execLossDeadline s
  | .freerunDeadline => Sys2Proof.Machine.execFreerunDeadline s
  | .sweepEntry => Sys2Proof.Machine.execSweepEntry s
  | .sweepLinkedSet => Sys2Proof.Machine.execSweepLinkedSet s
  | .fieldUpdate b => Sys2Proof.Machine.execFieldUpdate b s
  | .parameterRecordSent => Sys2Proof.Machine.execParameterRecordSent s
  | .tallyFrameSent => Sys2Proof.Machine.execTallyFrameSent s
  | .memoryReady data dt => Sys2Proof.Machine.execMemoryReady data dt s
  | .memoryTimeout => Sys2Proof.Machine.execMemoryTimeout s
  | .gpiPinChange n level dt => Sys2Proof.Machine.execGpiPinChange n level dt s
  | .gpiFilterExpiry n => Sys2Proof.Machine.execGpiFilterExpiry n s
  | .byteArrival l byte dt => Sys2Proof.Machine.execByteArrival l byte dt s

end Sys2Proof.Machine
end

