-- ==== Sys2Proof/Safety.lean ====
section
/-! DEFINITION. What the claims are stated in: the invariants of a state that the rules give (each kept by every step),
the frames a link has still to send, the verdict of the tests of R126 on a request, the value tests and clamps by
number, the first access of a memory job, and the layouts of what the part sends. -/

namespace Sys2Proof.Machine

/-! ### Bounds of lists and queues -/

/-- The schedule list holds at most 64 entries (R72). -/
def State.ScheduleBounded (s : State) : Prop := s.schedule.length ≤ Config.listPlaces

/-- A link's queues hold at most 8 and 24 requests, and at most one LEVER for each bank number (R117). -/
def State.QueuesBounded (s : State) : Prop :=
  ∀ l, (s.link l).takeQ.length ≤ Config.takePlaces ∧ (s.link l).setupQ.length ≤ Config.setupPlaces ∧
    ((s.link l).takeQ.filterMap fun r => r.body.leverBank).Nodup

/-! ### Linked sets and the budget -/

/-- An action of a linked set: CUT, AUTO or HOLD (R71). -/
def Action.isTake : Action → Bool
  | .cut | .auto | .hold => true
  | _ => false

/-- Only CUT, AUTO and HOLD entries carry the linked-set mark (R70, R71). -/
def State.LinkedTakes (s : State) : Prop := ∀ e ∈ s.schedule, e.linked.isSome = true → e.action.isTake = true

/-- A sweep has used at most 16 crosspoint changes (R82). -/
def State.BudgetKept (s : State) : Prop :=
  s.LinkedTakes ∧ ∀ w, s.sweep = some w → w.used ≤ Config.crosspointBudget

/-! ### The controllers -/

/-- The engagements of a bank in AUTO or PAUSED (R19). -/
def Engagement.awaiting : Engagement → Bool
  | .pickup | .pickupBelow | .pickupAbove => true
  | _ => false

/-- A record in a legal form: state, P, R and engagement stand together as R19 gives, a running bank has layers to
change, and the rate is in its range (R5). An AUTO has at least one part in 4096 left for each step to come (R52). -/
def BankRecord.Legal (r : BankRecord) : Prop :=
  1 ≤ r.rate ∧ r.rate ≤ 999 ∧
  match r.phase with
  | .idle => r.progress = 0 ∧ r.remaining = 0 ∧ (r.engagement = .free ∨ r.engagement = .parked)
  | .auto => 1 ≤ r.progress ∧ r.progress ≤ 4095 ∧ 1 ≤ r.remaining ∧ r.remaining ≤ 999 ∧
      r.remaining + r.progress ≤ Config.whole ∧ r.engagement.awaiting = true ∧ r.layers ≠ 0
  | .lever => 1 ≤ r.progress ∧ r.progress ≤ 4095 ∧ r.remaining = 0 ∧ r.engagement = .following ∧ r.layers ≠ 0
  | .paused => 1 ≤ r.progress ∧ r.progress ≤ 4095 ∧ r.remaining = 0 ∧ r.engagement.awaiting = true ∧ r.layers ≠ 0

/-- A rate that an entry waits to store is in its range (R63). -/
def Action.RateLegal (a : Action) : Prop :=
  match a with
  | .transSetup f => ∀ v, f.rate = some v → 1 ≤ v ∧ v ≤ 999
  | _ => True

/-- Both copies of a bank are legal, a bank in LEVER has a reading, and so has what waits to be applied to it (R19,
R39, R68). -/
def Bank.Legal (k : Bank) : Prop :=
  k.working.Legal ∧ k.published.Legal ∧ (k.working.phase = .lever → k.lever.isSome = true) ∧
    (∀ x, k.lever = some x → x.position ≤ 1023) ∧ ∀ e, k.staging = some e → 1 ≤ e.rate ∧ e.rate ≤ 999

/-- Every bank is legal, and every rate waiting in the schedule list is in range (R19, R63). -/
def State.ControllersLegal (s : State) : Prop :=
  s.LinkedTakes ∧ (∀ b, (s.bank b).Legal) ∧ ∀ e ∈ s.schedule, e.action.RateLegal

/-! ### Re-entry -/

/-- No bank's bus assignments, followed through re-entry codes, lead back to that bank (R17). -/
def State.ReentryAcyclic (s : State) : Prop :=
  s.LinkedTakes ∧ ∀ b, ∀ d ∈ (s.working b).reentries, s.inClosure d b = false

/-- A bus of bank `c` carries ME d: its A bus, its B bus, or the fill or key of any of its four keyers, whatever the
keyer's type, on-air flag and level and whatever the controller state (R17). -/
def State.BusCarries (s : State) (c d : BankIx) : Prop :=
  (s.working c).a.val = 51 + d.val ∨ (s.working c).b.val = 51 + d.val ∨
    ∃ k : KeyerIx, (pick (s.working c).keyers k).fill.val = 51 + d.val ∨
      (pick (s.working c).keyers k).key.val = 51 + d.val

/-- Bank `b` is in the dependency closure of bank `c`: it is `c`, or it is in that of a bank whose code a bus of `c` carries
(R17). -/
inductive DependsOn (s : State) : BankIx → BankIx → Prop
  | itself {c : BankIx} : DependsOn s c c
  | through {c d b : BankIx} : s.BusCarries c d → DependsOn s d b → DependsOn s c b

/-! ### Claims -/

/-- The Claim Table in its form: an entry is orphaned exactly while its holder's link is DOWN, only a LOCK is orphaned,
the age stays within 65535, and the elements of banks not enabled stay empty (R94, R97). -/
def State.ClaimsLegal (s : State) : Prop :=
  (∀ e c, s.claim e = some c →
    (c.orphaned = true ↔ (s.link c.holder).up = false) ∧ (c.orphaned = true → c.lock = true) ∧
      c.age ≤ Config.countLimit) ∧
  ∀ e b, elementBank e = some b → s.enabled b = false → s.claim e = none

/-! ### Banks that are not enabled -/

/-- A bank that is not enabled stays at its defaults and no entry or job names it (R4). -/
def State.AbsentBanksIdle (s : State) : Prop :=
  s.ClaimsLegal ∧ ∀ b, s.enabled b = false →
    s.bank b = Bank.default ∧ (∀ e ∈ s.schedule, e.bank ≠ b) ∧ ∀ j ∈ s.engine.jobs, j.isRecallOf b = false

/-! ### Recalls in flight -/

/-- What a recall job of bank `b` works for: its register and its origin. -/
def Job.recallFor (b : BankIx) : Job → Option (Nat × Origin)
  | .recallEffect c r o => if c = b then some (r, o) else none
  | _ => none

/-- What a FETCHING recall entry of bank `b` waits for: its register and its origin. -/
def Entry.fetchingFor (b : BankIx) (e : Entry) : Option (Nat × Origin) :=
  match e.action with
  | .recallEffect r false => if e.bank = b then some (r, e.origin) else none
  | _ => none

/-- An entry is a STAGED recall of bank `b`. -/
def Entry.stagedFor (b : BankIx) (e : Entry) : Bool :=
  match e.action with
  | .recallEffect _ true => e.bank == b
  | _ => false

/-- The active job, the one at the head of the queue, is of the kind its stage belongs to (R161). -/
def Engine.StageFits (g : Engine) : Prop :=
  match g.stage, g.jobs with
  | none, _ => True
  | some (.directory _), .recallEffect _ _ _ :: _ => True
  | some (.chain _ _ _ _ _), .recallEffect _ _ _ :: _ => True
  | some (.fragments _ _ _ _), .recallEffect _ _ _ :: _ => True
  | some (.writing _), .store _ _ _ _ _ :: _ => True
  | some (.writing _), .save _ _ :: _ => True
  | some (.loading _), .load :: _ => True
  | some _, _ => False

/-- Recalls in flight: at most one entry for each bank; a FETCHING entry and its job belong together, and a STAGED entry
and its bank's staging record do; and at most four jobs stand in the queue (R85, R86, R88, R161, R166). -/
def State.RecallsPaired (s : State) : Prop :=
  s.LinkedTakes ∧ s.engine.StageFits ∧ s.engine.jobs.length ≤ Config.jobPlaces ∧
  ∀ b, (s.schedule.filter (Entry.isRecallOf b)).length ≤ 1 ∧
    s.engine.jobs.filterMap (Job.recallFor b) = s.schedule.filterMap (Entry.fetchingFor b) ∧
    ((s.bank b).staging.isSome = s.schedule.any (Entry.stagedFor b))

/-! ### Transmit queues -/

/-- The report places of a transmit queue: those of the BANK-STATE and CLAIM-STATE frames in it (R120). -/
def Link.reports (k : Link) : List (Bool × Option BankIx) := k.tx.filterMap reportPlace

/-- Every link's general places hold its frames and its promises, and each report place at most one report (R120,
R121). -/
def State.TransmitRoom (s : State) : Prop :=
  s.RecallsPaired ∧ ∀ l, (s.link l).generalFrames + s.promised l ≤ Config.generalPlaces ∧ (s.link l).reports.Nodup

/-! ### The reference and the configuration -/

/-- The measured period stays within its range and the spurious count within 16 bits (R149, R152). -/
def State.ReferenceLegal (s : State) : Prop :=
  Config.shortestField ≤ s.ref.period ∧ s.ref.period ≤ Config.longestField ∧ s.ref.spurious ≤ Config.countLimit

/-- Every item holds a value of its range or a code without spare bits (R67, R179, R180). -/
def State.ItemsLegal (s : State) : Prop :=
  ∀ number : Fin 88, assigned number.val = true →
    if 64 ≤ number.val ∧ number.val ≤ 71 then modeValue (pick s.items number) = some (pick s.items number)
    else if 72 ≤ number.val ∧ number.val ≤ 79 then True
    else (itemRange number.val).1 ≤ (pick s.items number).toNat ∧
      (pick s.items number).toNat ≤ (itemRange number.val).2

/-- Every invariant of this file. -/
def State.Invariants (s : State) : Prop :=
  s.ScheduleBounded ∧ s.QueuesBounded ∧ s.BudgetKept ∧ s.ControllersLegal ∧ s.ReentryAcyclic ∧ s.AbsentBanksIdle ∧
    s.TransmitRoom ∧ s.ReferenceLegal ∧ s.ItemsLegal

/-! ### Runs of the controller -/

/-- P and R after some auto steps (R51). -/
def autoRun : Nat → Nat × Nat → Nat × Nat
  | 0, x => x
  | k + 1, x => autoRun k (x.1 + autoStepSize x.1 x.2, x.2 - 1)

/-- A bank after the field updates for `m` fields running from N (R47). -/
def Bank.updates (k : Bank) (n : FieldNo) (dwell : Nat) : Nat → Bank
  | 0 => k
  | m + 1 => (k.updates n dwell m).publish (fieldsOn n m) dwell

/-! ### Contribution through re-entry -/

/-- A source is carried by a bank's published state: it is a current contributor, or a re-entered bank that contributes
carries it (R16). -/
inductive Carries (s : State) : BankIx → Source → Prop
  | own {b : BankIx} {c : Source} : c ∈ (s.published b).contributors → Carries s b c
  | through {b d : BankIx} {c : Source} : meCode d ∈ (s.published b).contributors → Carries s d c → Carries s b c

/-! ### Stored effects -/

/-- What a STORE of a record keeps of it (R167). -/
def BankRecord.effect (r : BankRecord) : Effect :=
  { a := r.a, b := r.b, kind := r.kind, rate := r.rate, pattern := r.pattern, direction := r.direction
    softness := r.softness, borderWidth := r.borderWidth, borderColour := r.borderColour, layers := r.layers
    keyers := tab fun k =>
      if (r.keyer k).onAir || hasKey r.layers k then
        some { fill := (r.keyer k).fill, key := (r.keyer k).key, kind := (r.keyer k).kind
               invert := (r.keyer k).invert, onAir := (r.keyer k).onAir, clip := (r.keyer k).clip
               gain := (r.keyer k).gain }
      else none }

/-- A source code that is valid under the strap (R2). -/
def sourceValid (strapHigh : Bool) (c : Source) : Bool :=
  match reentered c with
  | some b => enabledUnder strapHigh b
  | none => true

/-- A record whose settings are in their ranges and whose sources are valid (R2, R5, R6). -/
def BankRecord.InRange (strapHigh : Bool) (r : BankRecord) : Prop :=
  (∀ c ∈ r.buses, sourceValid strapHigh c = true) ∧ 1 ≤ r.rate ∧ r.rate ≤ 999 ∧ r.pattern ≤ 15 ∧ r.softness ≤ 255 ∧
    r.borderWidth ≤ 255 ∧ ∀ k, (r.keyer k).clip ≤ 1023 ∧ (r.keyer k).gain ≤ 1023

/-! ### What a link has still to send -/

/-- The frames a link has still to send, in the order in which it will send them: the one on its line, the slot's, and
those of its transmit queue (R119, R122). -/
def Link.outgoing (k : Link) : List TxFrame :=
  (k.line.map Prod.fst).toList ++ ((k.slot.map TxFrame.flow).toList ++ k.tx)

/-- `k` differs from `j` only in what it has still to send. -/
def Link.SendsFrom (k j : Link) : Prop := k = { j with slot := k.slot, tx := k.tx, line := k.line }

/-- The banks after a change of the Claim Table: a bank whose TRANS element changed holder has its lever register
cleared, and every other bank is as it was (R40, R100). -/
def State.LeversFollowClaims (s t : State) : Prop :=
  ∀ b, t.bank b = if claimHolder (s.claim (transElement b)) = claimHolder (t.claim (transElement b)) then s.bank b
    else (s.bank b).clearLever

/-- The NOTICEs with a reason that entries bring to a link: one for each entry of the link's own, while the link is UP
(R79, R92, R133). -/
def State.noticesTo (s : State) (l : LinkIx) (reason : Reason) (es : List Entry) : List TxFrame :=
  es.filterMap fun e => match e.origin with
    | .link p tag => if p = l ∧ (s.link l).up = true then some (.notice tag reason (some e.bank)) else none
    | .line _ => none

/-! ### The queuing of frames (R121, R122) -/

/-- The newer report replaces the older one while that is unsent: both are the BANK-STATE of one bank, or the CLAIM-STATE
of one bank or of SYSTEM (R121). -/
def TxFrame.replaces : TxFrame → TxFrame → Bool
  | .bankState b _ _, .bankState c _ _ => b == c
  | .claimState p _, .claimState q _ => p == q
  | _, _ => false

/-- What a link has still to send once a frame is queued: an unsent report that the frame replaces gives it its place in
the queue, and otherwise the frame is the last; every other frame stays where it is (R121, R122). -/
def Link.outgoingWith (k : Link) (f : TxFrame) : List TxFrame :=
  (k.line.map Prod.fst).toList ++ ((k.slot.map TxFrame.flow).toList ++
    if k.tx.any f.replaces then k.tx.map fun g => if f.replaces g then f else g else k.tx ++ [f])

/-- A frame destined for link `k` at a moment leaves link `j`. An UP link queues it, its line going on with the frame on
it or, if it was idle, beginning at once the first frame there is to send (log 10), and nothing else of the link changes;
a DOWN link discards it (R121, R122). -/
def Link.Queues (now : Micros) (k : Link) (f : TxFrame) (j : Link) : Prop :=
  if k.up = true then
    j.SendsFrom k ∧ j.outgoing = k.outgoingWith f ∧
      j.line = j.outgoing.head?.map (fun g => (g, match k.line with
        | some (_, began) => began
        | none => now)) ∧
      j.slot = if k.line.isSome = true then k.slot else none
  else j = k

/-- The frames destined for link `k` at a moment, one after another, leave link `j`. -/
def Link.QueuesAll (now : Micros) : Link → List TxFrame → Link → Prop
  | k, [], j => j = k
  | k, f :: fs, j => ∃ i, k.Queues now f i ∧ i.QueuesAll now fs j

/-- The links of `u` are the links of `s`, with one notice queued on the link of an origin at the moment of `u`. A DOWN link
discards it, and a GPI line is told nothing (R92, R122, R133). -/
def State.NoticeSent (s u : State) (o : Origin) (reason : Reason) (b : BankIx) : Prop :=
  match o with
  | .link p tag => (∀ l, l ≠ p → u.link l = s.link l) ∧ (s.link p).Queues u.now (.notice tag reason (some b)) (u.link p)
  | .line _ => u.links = s.links

/-- The CLAIM-STATE reports that a change of the Claim Table calls for: one for each bank, and SYSTEM last (log 9), of which
an element changed holder, kind or orphaned flag, with all of its elements as they stand after the change (R94, R109). -/
def claimReportsFor (before after : Vector (Option Claim) 25) : List TxFrame :=
  (indices 5).filterMap fun q =>
    if ∃ e : ElemIx, e.val / 6 = q.val ∧ claimFace (pick before e) ≠ claimFace (pick after e) then
      some (.claimState (if h : q.val < 4 then some ⟨q.val, h⟩ else none)
        (((indices 25).filter fun e => e.val / 6 == q.val).map fun e => (e, pick after e)))
    else none

/-! ### The access on the port (R161, R162, R163, R168, R170, R171) -/

/-- The job at the head of the queue is active, with its first access on the port since `now`: a recall's read of byte 0 of
its directory entry, a store's write of its valid flag as 00h, a save's write of the first byte of the signature, or the
load's read of address 0. With no job the port is idle. -/
def Engine.FirstAccess (g : Engine) (now : Micros) (items : Vector (BitVec 16) 88) : Prop :=
  match g.jobs with
  | [] => g.stage = none ∧ g.port = none
  | .recallEffect _ r _ :: _ => g.stage = some (.directory []) ∧
      g.port = some { address := BitVec.ofNat 24 (0x001000 + 10 * r), data := none, raised := now }
  | .store _ _ _ r snapshot :: _ => g.stage = some (.writing (storeWrites r snapshot).tail) ∧
      g.port = some { address := BitVec.ofNat 24 (0x001000 + 10 * r), data := some 0x00, raised := now }
  | .save _ _ :: _ => g.stage = some (.writing (writesFrom 0 (configBlock items)).tail) ∧
      g.port = some { address := 0, data := some 0x5A, raised := now }
  | .load :: _ => g.stage = some (.loading []) ∧ g.port = some { address := 0, data := none, raised := now }

/-- Jobs leave the queue of `g`, to leave `h`: an active job among those dropped is abandoned, its access left in flight with
no stage, and otherwise the engine's stage and access stay as they were (R162). -/
def Engine.KeepsAccess (g h : Engine) (dropped : Job → Prop) : Prop :=
  ((∃ j, g.jobs.head? = some j ∧ dropped j) → ∀ access, g.port = some access → h.stage = none ∧ h.port = some access) ∧
  ((∀ j, g.jobs.head? = some j → ¬ dropped j) → g.stage.isSome = true ∨ g.port.isSome = true →
    h.stage = g.stage ∧ h.port = g.port)

/-! ### The layouts of what the part sends, by offset (R115, R131 to R136, R139, R146, R156) -/

/-- A start byte, the bytes checked, and their CRC-16 with its high byte first (R115, R139). -/
def framed (start : Byte) (checked : List Byte) : List Byte :=
  start :: checked ++ [(crc16 checked).extractLsb' 8 8, (crc16 checked).extractLsb' 0 8]

/-- The value of `size` bytes from an offset on, the most significant first (R139). -/
def valueAt (bytes : List Byte) (offset size : Nat) : Nat :=
  ((bytes.drop offset).take size).foldl (fun v b => 256 * v + b.toNat) 0

/-- A field of a layout: the `bits` bits from bit `low` on, bit 0 the least significant, of the value of `size` bytes
from an offset on, and what they hold (R139). -/
structure LayoutField where
  offset : Nat
  size : Nat
  low : Nat
  bits : Nat
  value : Nat
deriving DecidableEq, Repr

/-- A field of whole bytes. -/
def bytesField (offset size value : Nat) : LayoutField := ⟨offset, size, 0, 8 * size, value⟩

/-- A field of some bits of one byte. -/
def bitsField (offset low bits value : Nat) : LayoutField := ⟨offset, 1, low, bits, value⟩

/-- Bytes are as many as a layout has, and hold what its fields say, of a value wider than its field the low bits (R139;
log 20). -/
abbrev LaidOut (bytes : List Byte) (length : Nat) (fields : List LayoutField) : Prop :=
  bytes.length = length ∧ ∀ f ∈ fields, valueAt bytes f.offset f.size / 2 ^ f.low % 2 ^ f.bits = f.value % 2 ^ f.bits

/-- The number of fields by which X lies after N, 0 if N is at least X (R10, R135). -/
def fieldsAfter (n x : FieldNo) : Nat := if (n - x).toNat < 2 ^ 31 then 0 else (x - n).toNat

/-- Keyer `k` of a BANK-STATE body, from offset 20 + 7 × (k - 1) on (R135, R139; spare bits: log 33). -/
def Keyer.layout (offset : Nat) (k : Keyer) : List LayoutField :=
  [bytesField offset 1 k.fill.val, bytesField (offset + 1) 1 k.key.val, bitsField (offset + 2) 0 1 k.kind.code,
    bitsField (offset + 2) 1 1 k.invert.toNat, bitsField (offset + 2) 2 1 k.onAir.toNat, bitsField (offset + 2) 3 5 0,
    bytesField (offset + 3) 2 k.clip, bytesField (offset + 5) 2 k.gain]

/-- The 52 bytes of a BANK-STATE body (R8, R135, R139; spare bits: log 33). -/
def bankStateLayout (b : BankIx) (n : FieldNo) (r : BankRecord) : List LayoutField :=
  [bytesField 0 4 n.toNat, bytesField 4 1 (b.val + 1), bytesField 5 1 r.a.val, bytesField 6 1 r.b.val,
    bitsField 7 0 1 r.kind.code, bitsField 7 1 2 r.direction.code, bitsField 7 3 1 r.flip.toNat,
    bitsField 7 4 1 r.borderColour.code, bitsField 7 5 3 0, bytesField 8 1 r.pattern, bytesField 9 2 r.rate,
    bytesField 11 1 r.softness, bytesField 12 1 r.borderWidth, bytesField 13 1 r.layers.toNat,
    bitsField 14 0 2 r.phase.code, bitsField 14 2 3 r.engagement.code,
    bitsField 14 5 1 (decide (r.sense = .inverted)).toNat, bitsField 14 6 2 0, bitsField 15 0 1 r.waiting.toNat,
    bitsField 15 1 1 r.aborted.toNat, bitsField 15 2 1 r.done.toNat, bitsField 15 3 5 0, bytesField 16 2 r.progress,
    bytesField 18 2 r.remaining] ++
  ((indices 4).flatMap fun k => (r.keyer k).layout (20 + 7 * k.val)) ++
  [⟨48, 4, 0, 3, fieldsAfter n r.bReady⟩, ⟨48, 4, 27, 5, fieldsAfter n r.dwellEnd⟩] ++
  (indices 4).flatMap fun k => [⟨48, 4, 3 * (2 * k.val + 1), 3, fieldsAfter n (r.keyer k).fillReady⟩,
    ⟨48, 4, 3 * (2 * k.val + 2), 3, fieldsAfter n (r.keyer k).keyReady⟩]

/-- The body of an ACCEPT after the answered type: its length and its fields (R131, R139). -/
def Accepted.layout : Accepted → Nat × List LayoutField
  | .due d => (5, [bytesField 1 4 d.toNat])
  | .dueKey d f => (14, [bytesField 1 4 d.toNat, bitsField 5 0 1 f.fill.isSome.toNat, bitsField 5 1 1 f.key.isSome.toNat,
      bitsField 5 2 1 f.kind.isSome.toNat, bitsField 5 3 1 f.clip.isSome.toNat, bitsField 5 4 1 f.gain.isSome.toNat,
      bitsField 5 5 1 f.invert.isSome.toNat, bitsField 5 6 2 0, bytesField 6 1 ((f.fill.map Fin.val).getD 0),
      bytesField 7 1 ((f.key.map Fin.val).getD 0), bytesField 8 1 ((f.kind.map KeyerType.code).getD 0),
      bytesField 9 2 (f.clip.getD 0), bytesField 11 2 (f.gain.getD 0),
      bytesField 13 1 ((f.invert.map Bool.toNat).getD 0)])
  | .dueTrans d f => (14, [bytesField 1 4 d.toNat, bitsField 5 0 1 f.kind.isSome.toNat,
      bitsField 5 1 1 f.rate.isSome.toNat, bitsField 5 2 1 f.pattern.isSome.toNat,
      bitsField 5 3 1 f.direction.isSome.toNat,
      bitsField 5 4 1 f.softness.isSome.toNat, bitsField 5 5 1 f.borderWidth.isSome.toNat,
      bitsField 5 6 1 f.borderColour.isSome.toNat, bitsField 5 7 1 0, bytesField 6 1 ((f.kind.map Kind.code).getD 0),
      bytesField 7 2 (f.rate.getD 0), bytesField 9 1 (f.pattern.getD 0),
      bytesField 10 1 ((f.direction.map Direction.code).getD 0), bytesField 11 1 (f.softness.getD 0),
      bytesField 12 1 (f.borderWidth.getD 0), bytesField 13 1 ((f.borderColour.map BorderColour.code).getD 0)])
  | .element e => (2, [bytesField 1 1 e.val])
  | .count n => (2, [bytesField 1 1 n])
  | .item number value => (4, [bytesField 1 1 number, bytesField 2 2 value.toNat])
  | .register r => (2, [bytesField 1 1 r])
  | .plain => (1, [])

/-- One element of a CLAIM-STATE body, from an offset on: an empty entry has holder NONE, kind TOUCH, age 0 and the
orphaned flag clear (R97, R109, R139; spare bits: log 33). -/
def claimLayout (offset : Nat) (e : ElemIx) (c : Option Claim) : List LayoutField :=
  [bytesField offset 1 e.val, bytesField (offset + 1) 1 ((c.map fun x => x.holder.val).getD 255),
    bitsField (offset + 2) 0 1 ((c.map fun x => x.lock.toNat).getD 0),
    bitsField (offset + 2) 1 1 ((c.map fun x => x.orphaned.toNat).getD 0), bitsField (offset + 2) 2 6 0,
    bytesField (offset + 3) 2 ((c.map Claim.age).getD 0)]

/-- The tag of an origin; a GPI line has none. -/
def Origin.tag : Origin → Nat
  | .link _ t => t.toNat
  | .line _ => 0

/-- The memory state of an action is STAGED; no action but a RECALL has one (R70). -/
def Action.isStaged : Action → Bool
  | .recallEffect _ staged => staged
  | _ => false

/-- One entry of a SCHEDULE-LIST body, from an offset on, in a report of the field F: the due field less F in 12 bits of
two's complement, -2048 for an entry 2048 or more fields behind (R91, R139; STAGED of an action that is no RECALL: log
32). -/
def Entry.layout (offset : Nat) (f : FieldNo) (e : Entry) : List LayoutField :=
  [⟨offset, 4, 20, 12, ((max (-2048) (e.due - f).toInt) % 4096).toNat⟩, ⟨offset, 4, 12, 8, e.origin.tag⟩,
    ⟨offset, 4, 8, 4, e.action.code⟩, ⟨offset, 4, 6, 2, e.bank.val⟩, ⟨offset, 4, 5, 1, e.linked.isSome.toNat⟩,
    ⟨offset, 4, 4, 1, e.action.isStaged.toNat⟩, ⟨offset, 4, 0, 4, e.count.getD 15⟩]

/-- One line's byte of a GPI-STATE body (R178, R139; spare bits: log 33). -/
def GpiReport.layout (offset : Nat) (g : GpiReport) : List LayoutField :=
  [bitsField offset 0 1 g.out.toNat, bitsField offset 1 1 g.level.toNat, bitsField offset 2 1 g.pin.toNat,
    bitsField offset 3 1 g.edge.toNat, bitsField offset 4 1 g.dropped.toNat, bitsField offset 5 3 0]

/-- What a frame is on the line: its type, its tag, the length of its body and the fields of its body (R131 to R136,
R139; spare bits: log 33). -/
def TxFrame.layout : TxFrame → Byte × Byte × Nat × List LayoutField
  | .accept tag answered info => (0x81, tag, info.layout.1, bytesField 0 1 answered.toNat :: info.layout.2)
  | .refuse tag refused reason holder => (0x82, tag, 3,
      [bytesField 0 1 refused.toNat, bytesField 1 1 reason.code, bytesField 2 1 ((holder.map Fin.val).getD 255)])
  | .notice tag reason bank => (0x83, tag, 2,
      [bytesField 0 1 reason.code, bytesField 1 1 ((bank.map fun b => b.val + 1).getD 0)])
  | .bankState bank n record => (0x84, 0, 52, bankStateLayout bank n record)
  | .claimState subject entries => (0x85, 0, 1 + 5 * entries.length,
      bytesField 0 1 ((subject.map fun b => b.val + 1).getD 0) ::
        entries.zipIdx.flatMap fun x => claimLayout (1 + 5 * x.2) x.1.1 x.1.2)
  | .flow .holdOff => (0x86, 0, 0, [])
  | .flow .resume => (0x87, 0, 0, [])
  | .scheduleList tag sequence reports f entries => (0x88, tag, 5 + 4 * entries.length,
      bitsField 0 4 4 sequence :: bitsField 0 0 4 reports :: bytesField 1 4 f.toNat ::
        entries.zipIdx.flatMap fun x => x.1.layout (5 + 4 * x.2) f)
  | .linkCounts tag link up holdOff take setup transmit promised frameErrors overflow => (0x89, tag, 10,
      [bytesField 0 1 link.val, bitsField 1 0 1 up.toNat, bitsField 1 1 1 holdOff.toNat, bitsField 1 2 6 0,
        bytesField 2 1 take, bytesField 3 1 setup, bytesField 4 1 transmit, bytesField 5 1 promised,
        bytesField 6 2 frameErrors, bytesField 8 2 overflow])
  | .gpiState tag lines => (0x8A, tag, lines.length, lines.zipIdx.flatMap fun x => x.1.layout x.2)
  | .configValue tag item value => (0x8B, tag, 3, [bytesField 0 1 item, bytesField 1 2 value.toNat])
  | .fieldStatus tag f locked cfgDefault running period spurious => (0x8C, tag, 9,
      [bytesField 0 4 f.toNat, bitsField 4 0 1 locked.toNat, bitsField 4 1 1 cfgDefault.toNat,
        bitsField 4 2 1 running.toNat, bitsField 4 3 5 0, bytesField 5 2 period, bytesField 7 2 spurious])

/-- A frame goes out as these bytes: the start byte A5h, LEN, its type, its tag, its body as its layout has it, and the
CRC-16 over LEN to the end of the body (R115, R139). -/
def TxFrame.SentAs (f : TxFrame) (bytes : List Byte) : Prop :=
  ∃ body, bytes = framed 0xA5 (BitVec.ofNat 8 (f.layout.2.2.1 + 2) :: f.layout.1 :: f.layout.2.1 :: body) ∧
    LaidOut body f.layout.2.2.1 f.layout.2.2.2

/-- Keyer `k` of a field parameter record, from offset 20 + 9 × (k - 1) on (R139, R156; spare bits: log 33). -/
def ParamKeyer.layout (offset : Nat) (k : ParamKeyer) : List LayoutField :=
  [bytesField offset 1 k.fill.val, bytesField (offset + 1) 1 k.key.val, bitsField (offset + 2) 0 1 k.kind.code,
    bitsField (offset + 2) 1 1 k.invert.toNat, bitsField (offset + 2) 2 2 k.mark.code, bitsField (offset + 2) 4 4 0,
    bytesField (offset + 3) 2 k.lift, bytesField (offset + 5) 2 k.slope, bytesField (offset + 7) 2 k.level]

/-- The 56 bytes of a field parameter record's body (R139, R156; spare bits: log 33). -/
def ParamRecord.layout (p : ParamRecord) : List LayoutField :=
  [bytesField 0 4 p.field.toNat, bytesField 4 1 (p.bank.val + 1), bytesField 5 1 p.a.val, bytesField 6 1 p.b.val,
    bitsField 7 0 2 p.phase.code, bitsField 7 2 1 p.kind.code, bitsField 7 3 1 p.reverse.toNat,
    bitsField 7 4 1 p.wiped.toNat, bitsField 7 5 3 0, bytesField 8 1 p.pattern,
    bytesField 9 1 (49 + p.borderColour.code), bytesField 10 2 p.mix, bytesField 12 2 (p.tlo % 65536).toNat, bytesField 14 2 p.edge, bytesField 16 2 p.slope,
    bytesField 18 2 p.border] ++
  (indices 4).flatMap fun k => (pick p.keyers k).layout (20 + 9 * k.val)

/-- The 18 bytes of a tally frame's body: for source code c the PGM bit is bit 2 × (c mod 4) of byte 4 + c / 4, and the PVW
bit the one above it (R139, R146). -/
def TallyFrame.layout (t : TallyFrame) : List LayoutField :=
  bytesField 0 4 t.field.toNat :: bitsField 17 6 2 0 ::
    (indices 55).flatMap fun c => [bitsField (4 + c.val / 4) (2 * (c.val % 4)) 1 (pick t.pgm c).toNat,
      bitsField (4 + c.val / 4) (2 * (c.val % 4) + 1) 1 (pick t.pvw c).toNat]

/-! ### Value tests and clamps by number (R2, R3, R63, R65, R67, R94, R95, R128, R136, R180, R181) -/

/-- A bank number of an enabled bank (R4, R65). -/
def State.isBankNumber (s : State) (c : Byte) : Bool := decide (1 ≤ c.toNat ∧ c.toNat ≤ if s.strapHigh then 4 else 2)

/-- A source code valid for the part (R2): the codes of ME3 and ME4, 53 and 54, only with the strap high. -/
def State.isSourceNumber (s : State) (c : Byte) : Bool := decide (c.toNat ≤ if s.strapHigh then 54 else 52)

/-- An item number that R179 assigns. -/
def isItemNumber (n : Nat) : Bool :=
  decide (1 ≤ n ∧ n ≤ 6 ∨ 8 ≤ n ∧ n ≤ 11 ∨ 16 ≤ n ∧ n ≤ 40 ∨ 48 ≤ n ∧ n ≤ 53 ∨ 64 ≤ n ∧ n ≤ 87)

/-- The reason of the first test that fails. -/
def firstFault (tests : List (Bool × Reason)) : Option Reason := (tests.find? Prod.fst).map Prod.snd

/-- The fault of a GPI_MODE or GPI_ARG value, `mode` being the GPI_MODE that an argument is examined against (R180). -/
def State.codeFault (s : State) (number : Nat) (mode value : Nat) : Option Reason :=
  if 64 ≤ number ∧ number ≤ 71 then
    firstFault [(decide (if 32768 ≤ value then 4 < value % 8 else value / 16 % 4 = 3 ∨ 4 < value / 256 % 8), .badValue)]
  else if 72 ≤ number ∧ number ≤ 79 then
    firstFault [
      (decide (32768 ≤ mode ∧ (mode % 8 = 1 ∨ mode % 8 = 2)) && !s.isSourceNumber (BitVec.ofNat 8 value), .badSource),
      (decide (mode < 32768 ∧ mode / 256 % 8 = 4 ∧ 99 < value % 256), .badValue)]
  else none

/-- The reason of the first value test that a request fails: its bank, then the values refused with BADVALUE, then its
sources, then its own re-entry (R65). -/
def State.valueFault (s : State) : Body → Option Reason
  | .select bank bus source _ => firstFault [
      (!s.isBankNumber bank, .badBank), (decide (1 < bus.toNat), .badValue), (!s.isSourceNumber source, .badSource),
      (decide (source.toNat = 50 + bank.toNat), .loop)]
  | .cut mask _ | .auto mask _ | .hold mask _ =>
      firstFault [(decide (mask.toNat = 0 ∨ (if s.strapHigh then 15 else 3) < mask.toNat), .badBank)]
  | .lever bank _ => firstFault [(!s.isBankNumber bank, .badBank)]
  | .keyCut bank keyer onOff _ => firstFault [
      (!s.isBankNumber bank, .badBank), (decide (keyer.toNat = 0 ∨ 4 < keyer.toNat ∨ 1 < onOff.toNat), .badValue)]
  | .keySetup bank keyer mask fill key kind _ _ invert _ => firstFault [
      (!s.isBankNumber bank, .badBank),
      (decide (keyer.toNat = 0 ∨ 4 < keyer.toNat ∨ 63 < mask.toNat) ||
        mask.getLsbD 2 && decide (1 < kind.toNat) || mask.getLsbD 5 && decide (1 < invert.toNat), .badValue),
      (mask.getLsbD 0 && !s.isSourceNumber fill || mask.getLsbD 1 && !s.isSourceNumber key, .badSource),
      (mask.getLsbD 0 && decide (fill.toNat = 50 + bank.toNat) ||
        mask.getLsbD 1 && decide (key.toNat = 50 + bank.toNat), .loop)]
  | .transSetup bank mask kind _ pattern direction _ _ borderColour _ => firstFault [
      (!s.isBankNumber bank, .badBank),
      (decide (127 < mask.toNat) || mask.getLsbD 0 && decide (1 < kind.toNat) ||
        mask.getLsbD 2 && decide (15 < pattern.toNat) || mask.getLsbD 3 && decide (2 < direction.toNat) ||
        mask.getLsbD 6 && decide (1 < borderColour.toNat), .badValue)]
  | .layers bank set _ => firstFault [(!s.isBankNumber bank, .badBank), (decide (31 < set.toNat), .badValue)]
  | .claim element | .release element | .breakLock element => firstFault [
      (decide (24 < element.toNat), .badValue),
      (decide (s.strapHigh = false ∧ 12 ≤ element.toNat ∧ element.toNat ≤ 23), .badBank)]
  | .recallEffect bank register _ | .store bank register => firstFault [
      (!s.isBankNumber bank, .badBank), (decide (99 < register.toNat), .badValue)]
  | .config item value =>
      if isItemNumber item.toNat = false ∨ s.strapHigh = false ∧
          (10 ≤ item.toNat ∧ item.toNat ≤ 11 ∨ 28 ≤ item.toNat ∧ item.toNat ≤ 39) then some .badValue
      else s.codeFault item.toNat (s.item (item.toNat - 8)).toNat value.toNat
  | .query subject argument => firstFault [
      (decide (subject.toNat = 0 ∨ 7 < subject.toNat ∨ subject.toNat = 1 ∧ (argument.toNat = 0 ∨ 4 < argument.toNat) ∨
        subject.toNat = 2 ∧ 4 < argument.toNat ∨ subject.toNat = 5 ∧ 1 < argument.toNat ∨
        subject.toNat = 6 ∧ isItemNumber argument.toNat = false), .badValue),
      (decide (subject.toNat = 1 ∨ subject.toNat = 2 ∧ argument.toNat ≠ 0) && !s.isBankNumber argument, .badBank)]
  | .cancel _ | .saveConfig | .reset | .malformed _ _ => none

/-- A value that a mask bit selects, and nothing where the bit is clear (R128). -/
def ifSelected (mask : Byte) (bit : Nat) (v : Nat) : Option Nat := if mask.getLsbD bit then some v else none

/-- A KEY-SETUP's fields as its entry carries them (R63, R128). -/
def KeyFields.AsAsked (f : KeyFields) (mask fill key kind : Byte) (clip gain : Nat) (invert : Byte) : Prop :=
  f.fill.map Fin.val = ifSelected mask 0 fill.toNat ∧ f.key.map Fin.val = ifSelected mask 1 key.toNat ∧
    f.kind.map KeyerType.code = ifSelected mask 2 kind.toNat ∧ f.clip = ifSelected mask 3 (min clip 1023) ∧
    f.gain = ifSelected mask 4 (min gain 1023) ∧ f.invert.map Bool.toNat = ifSelected mask 5 invert.toNat

/-- A TRANS-SETUP's fields as its entry carries them (R63, R128). -/
def TransFields.AsAsked (f : TransFields) (mask kind : Byte) (rate : Nat)
    (pattern direction softness borderWidth borderColour : Byte) : Prop :=
  f.kind.map Kind.code = ifSelected mask 0 kind.toNat ∧ f.rate = ifSelected mask 1 (max 1 (min rate 999)) ∧
    f.pattern = ifSelected mask 2 pattern.toNat ∧ f.direction.map Direction.code = ifSelected mask 3 direction.toNat ∧
    f.softness = ifSelected mask 4 softness.toNat ∧ f.borderWidth = ifSelected mask 5 borderWidth.toNat ∧
    f.borderColour.map BorderColour.code = ifSelected mask 6 borderColour.toNat

/-- A take on the banks of a mask, in increasing number, and on the TRANS element of each (R71, R95). -/
def Plan.TakesMask (p : Plan) (mask : Byte) (action : Action) : Prop :=
  p.banks = ((indices 4).filter fun b => mask.getLsbD b.val) ∧ p.action = action ∧
    p.elements.map Fin.val = p.banks.map fun b => 6 * b.val + 1

/-- A plan is what a scheduled request asks for: its bank or banks, its action with the values clamped, and the elements
it needs by their numbers (R63, R94, R95, R127, R128). -/
def Plan.AsAsked (p : Plan) : Body → Prop
  | .select bank bus source _ => ∃ (b : BankIx) (c : Source), bank.toNat = b.val + 1 ∧ c.val = source.toNat ∧
      p.banks = [b] ∧ p.action = .select (if bus = 0 then .a else .b) c ∧ p.elements.map Fin.val = [6 * b.val]
  | .cut mask _ => p.TakesMask mask .cut
  | .auto mask _ => p.TakesMask mask .auto
  | .hold mask _ => p.TakesMask mask .hold
  | .keyCut bank keyer onOff _ => ∃ b k : Fin 4, bank.toNat = b.val + 1 ∧ keyer.toNat = k.val + 1 ∧ p.banks = [b] ∧
      p.action = .keyCut k (decide (onOff = 1)) ∧ p.elements.map Fin.val = [6 * b.val + 2 + k.val]
  | .keySetup bank keyer mask fill key kind clip gain invert _ => ∃ (b k : Fin 4) (f : KeyFields),
      bank.toNat = b.val + 1 ∧ keyer.toNat = k.val + 1 ∧ p.banks = [b] ∧ p.action = .keySetup k f ∧
      f.AsAsked mask fill key kind clip gain invert ∧ p.elements.map Fin.val = [6 * b.val + 2 + k.val]
  | .transSetup bank mask kind rate pattern direction softness borderWidth borderColour _ =>
      ∃ (b : BankIx) (f : TransFields), bank.toNat = b.val + 1 ∧ p.banks = [b] ∧ p.action = .transSetup f ∧
        f.AsAsked mask kind rate pattern direction softness borderWidth borderColour ∧
        p.elements.map Fin.val = [6 * b.val + 1]
  | .layers bank set _ => ∃ (b : BankIx) (v : LayerSet), bank.toNat = b.val + 1 ∧ v.toNat = set.toNat ∧ p.banks = [b] ∧
      p.action = .layers v ∧ p.elements.map Fin.val = [6 * b.val + 1]
  | _ => False

/-- What an item stores of a value that is not refused: a number clamped to the item's range, a GPI_MODE without its spare
bits, a GPI_ARG as given (R67, R179, R180). -/
def storedValue (number value : Nat) : Nat :=
  if number = 1 then min value 15
  else if number ≤ 3 then min value 7
  else if number = 4 then min value 1023
  else if number = 5 then value
  else if number = 6 then max 1 (min value 15)
  else if number ≤ 11 then min value 15
  else if number ≤ 40 then min value 7
  else if number ≤ 53 then min value 255
  else if number ≤ 71 then
    (if 32768 ≤ value then 32768 + value % 16 else value % 64 + 256 * (value / 256 % 8))
  else if number ≤ 79 then value
  else min value 255

/-! ### The verdict on a request (R126) -/

/-- The reason of a failed examination, with no holder. -/
def failed {α : Type} : Except Reason α → Option (Reason × Option LinkIx)
  | .error reason => some (reason, none)
  | .ok _ => none

/-- A test made when those before it have passed. -/
def orElse (first then' : Option (Reason × Option LinkIx)) : Option (Reason × Option LinkIx) :=
  match first with
  | some v => some v
  | none => then'

/-- A test that refuses for a reason. -/
def refuseIf (c : Bool) (reason : Reason) : Option (Reason × Option LinkIx) := if c then some (reason, none) else none

/-- What a scheduled request other than a RECALL asks for, with its lead (R127, R128). -/
def State.planOf (s : State) : Body → Option (Except Reason Plan × Byte)
  | .select bank bus source lead => some (s.planSelect bank bus source, lead)
  | .cut mask lead => some (s.planMask mask .cut, lead)
  | .auto mask lead => some (s.planMask mask .auto, lead)
  | .hold mask lead => some (s.planMask mask .hold, lead)
  | .keyCut bank keyer onOff lead => some (s.planKeyCut bank keyer onOff, lead)
  | .keySetup bank keyer mask fill key kind clip gain invert lead =>
    some (s.planKeySetup bank keyer mask fill key kind clip gain invert, lead)
  | .transSetup bank mask kind rate pattern direction softness width colour lead =>
    some (s.planTransSetup bank mask kind rate pattern direction softness width colour, lead)
  | .layers bank set lead => some (s.planLayers bank set, lead)
  | _ => none

/-- The verdict on a scheduled request's plan: values, elements, room in the list (R126). -/
def State.planVerdict (s : State) (l : LinkIx) : Except Reason Plan → Option (Reason × Option LinkIx)
  | .error reason => some (reason, none)
  | .ok p => orElse (s.elementsRefusal l p.elements) (refuseIf (s.freePlaces < p.banks.length) .listFull)

/-- The verdict on a RECALL (R73, R85, R126). -/
def State.recallVerdict (s : State) (l : LinkIx) (bank register : Byte) : Option (Reason × Option LinkIx) :=
  match s.bankRegister bank register with
  | .error reason => some (reason, none)
  | .ok (b, _) =>
    orElse (s.elementsRefusal l (bankElements b)) (orElse (refuseIf (s.freePlacesForRecall b < 1) .listFull)
      (refuseIf (Config.jobPlaces ≤ s.jobsBesideRecall b) .memBusy))

/-- The verdict on a BREAK's element (R104). -/
def State.breakVerdict (s : State) (l : LinkIx) (e : ElemIx) : Option (Reason × Option LinkIx) :=
  if s.member l e = false then some (.noGroup, none)
  else match s.claim e with
    | none => some (.notLocked, none)
    | some c =>
      if c.lock = false then some (.notLocked, none)
      else if c.orphaned = false then some (.locked, some c.holder)
      else none

/-- The verdict on a request that the Arbiter hands over: the reason of the first test that fails, with the holder it
names, or nothing if the request is accepted (R126). -/
def State.verdict (s : State) (o : Offer) : Option (Reason × Option LinkIx) :=
  match o.body with
  | .malformed _ fault => some (fault, none)
  | .select bank bus source _ => s.planVerdict o.link (s.planSelect bank bus source)
  | .cut mask _ => s.planVerdict o.link (s.planMask mask .cut)
  | .auto mask _ => s.planVerdict o.link (s.planMask mask .auto)
  | .hold mask _ => s.planVerdict o.link (s.planMask mask .hold)
  | .keyCut bank keyer onOff _ => s.planVerdict o.link (s.planKeyCut bank keyer onOff)
  | .keySetup bank keyer mask fill key kind clip gain invert _ =>
    s.planVerdict o.link (s.planKeySetup bank keyer mask fill key kind clip gain invert)
  | .transSetup bank mask kind rate pattern direction softness width colour _ =>
    s.planVerdict o.link (s.planTransSetup bank mask kind rate pattern direction softness width colour)
  | .layers bank set _ => s.planVerdict o.link (s.planLayers bank set)
  | .lever bank _ =>
    match s.bankOf bank with
    | .error reason => some (reason, none)
    | .ok b => s.elementsRefusal o.link [transElement b]
  | .claim element =>
    match s.elementOf element with
    | .error reason => some (reason, none)
    | .ok e => s.claimRefusal o.link e
  | .release element =>
    match s.elementOf element with
    | .error reason => some (reason, none)
    | .ok e => refuseIf (claimHolder (s.claim e) ≠ some o.link) .notHolder
  | .breakLock element =>
    match s.elementOf element with
    | .error reason => some (reason, none)
    | .ok e => s.breakVerdict o.link e
  | .recallEffect bank register _ => s.recallVerdict o.link bank register
  | .store bank register =>
    match s.bankRegister bank register with
    | .error reason => some (reason, none)
    | .ok (b, _) =>
      orElse (refuseIf (s.member o.link (transElement b) = false) .noGroup)
        (refuseIf (Config.jobPlaces ≤ s.engine.jobs.length) .memBusy)
  | .cancel tag => refuseIf ((s.schedule.any (Entry.cancelledBy o.link tag)) = false) .notFound
  | .config item value => orElse (failed (s.planConfig item value)) (s.elementsRefusal o.link [systemElement])
  | .saveConfig =>
    orElse (s.elementsRefusal o.link [systemElement]) (refuseIf (Config.jobPlaces ≤ s.engine.jobs.length) .memBusy)
  | .reset => s.elementsRefusal o.link [systemElement]
  | .query subject argument =>
    match subject.toNat with
    | 1 => failed (s.queryBankOf argument)
    | 2 => failed (s.claimSubject argument)
    | 3 => none
    | 4 => none
    | 5 => refuseIf (1 < argument.toNat) .badValue
    | 6 => refuseIf (assigned argument.toNat = false) .badValue
    | 7 => none
    | _ => some (.badValue, none)

/-- The command that serves a request: the row of the table of its kind. -/
def Body.command : Body → Instr
  | .select _ _ _ _ => .select
  | .cut _ _ => .cut
  | .auto _ _ => .auto
  | .hold _ _ => .hold
  | .lever _ _ => .lever
  | .keyCut _ _ _ _ => .keyCut
  | .keySetup _ _ _ _ _ _ _ _ _ _ => .keySetup
  | .transSetup _ _ _ _ _ _ _ _ _ _ => .transSetup
  | .layers _ _ _ => .layers
  | .claim _ => .claim
  | .release _ => .release
  | .breakLock _ => .breakLock
  | .recallEffect _ _ _ => .recallEffect
  | .store _ _ => .store
  | .cancel _ => .cancel
  | .config _ _ => .config
  | .saveConfig => .saveConfig
  | .reset => .reset
  | .query subject _ =>
    match subject.toNat with
    | 2 => .queryClaims
    | 3 => .querySchedule
    | 4 => .queryLink
    | 5 => .queryGpi
    | 6 => .queryConfig
    | 7 => .queryField
    | _ => .queryBank
  | .malformed _ _ => .malformedFrame

end Sys2Proof.Machine
end

