-- ==== Sys2Proof/Certificates/Slice0/Obligations.lean ====
section
/-! DEFINITION. The statements for the provers. -/

open Sys2Proof Sys2Proof.Machine

/-! ### Served requests (R123 to R137) -/

/-- R119, R120, R123, R124: a link's candidate is its TAKE head, and its SETUP head when no TAKE request waits or the
take-run counter has reached TAKE_RATIO; a request needs 1 place, or what the table of R123 gives it, a mask counting
its bits 0 to 3 (log 22); and a link is eligible when it is UP and its uncommitted places, of 31 those that neither hold
a frame nor are promised, cover its candidate's need. The RUNNING part hands over the candidate of the first eligible
link, counted from the link after the one it served last; the request leaves its queue, the pointer becomes its link,
and the take-run counter counts a TAKE request and returns to 0 at a SETUP request. A SETUP queue brought to 8 with
hold-off ON turns it OFF: RESUME waits in the slot ahead of the transmit queue, or a HOLD-OFF that waits there is
cancelled. -/
def Obligations.ArbiterServesTheFirstEligibleLink : Prop :=
  (∀ (k : Link) (ratio : Nat),
    (k.takeQ = [] → k.candidate ratio = k.setupQ.head?.map fun r => (.setup, r)) ∧
    (∀ r, k.takeQ.head? = some r → k.takeRun < ratio ∨ k.setupQ = [] → k.candidate ratio = some (.take, r)) ∧
    (∀ r, k.takeQ ≠ [] → ratio ≤ k.takeRun → k.setupQ.head? = some r → k.candidate ratio = some (.setup, r))) ∧
  (∀ b : Body, b.need = match b with
    | .cut mask _ | .auto mask _ | .hold mask _ => 1 + ((List.range 4).filter fun i => mask.getLsbD i).length
    | .select _ _ _ _ | .keyCut _ _ _ _ | .keySetup _ _ _ _ _ _ _ _ _ _ | .transSetup _ _ _ _ _ _ _ _ _ _
    | .layers _ _ _ | .recallEffect _ _ _ | .store _ _ | .saveConfig => 2
    | .query subject _ => if subject.toNat = 3 then 3 else 1
    | .lever _ _ | .claim _ | .release _ | .breakLock _ | .cancel _ | .config _ _ | .reset | .malformed _ _ => 1) ∧
  (∀ (s : State) (l : LinkIx),
    s.uncommitted l = 31 - (((s.link l).tx.filter fun f => (reportPlace f).isNone).length +
      ((s.schedule.filter fun e => match e.origin with | .link p _ => p == l | .line _ => false).length +
        (s.engine.jobs.filter fun j => match j with
          | .store p _ _ _ _ | .save p _ => p == l
          | .recallEffect _ _ _ | .load => false).length)) ∧
    (∀ o, s.eligible l = some o ↔ (s.link l).up = true ∧ o.link = l ∧
      (s.link l).candidate (s.item 6).toNat = some (o.queue, ⟨o.tag, o.body⟩) ∧ o.body.need ≤ s.uncommitted l) ∧
    (s.offer = none ↔ s.running = false ∨ ∀ m, s.eligible m = none)) ∧
  ∀ (s : State) (o : Offer), s.offer = some o →
    s.running = true ∧ (s.link o.link).up = true ∧
    (s.link o.link).candidate s.takeRatio = some (o.queue, ⟨o.tag, o.body⟩) ∧
    o.body.need ≤ s.uncommitted o.link ∧
    (∀ l, l - (s.pointer + 1) < o.link - (s.pointer + 1) → s.eligible l = none) ∧
    (s.takeRequest o).pointer = o.link ∧
    (∀ l, l ≠ o.link → (s.takeRequest o).link l = s.link l) ∧
    (match o.queue with
      | .take => (s.link o.link).takeQ = ⟨o.tag, o.body⟩ :: ((s.takeRequest o).link o.link).takeQ ∧
          ((s.takeRequest o).link o.link).setupQ = (s.link o.link).setupQ ∧
          ((s.takeRequest o).link o.link).takeRun = min ((s.link o.link).takeRun + 1) 15
      | .setup => (s.link o.link).setupQ = ⟨o.tag, o.body⟩ :: ((s.takeRequest o).link o.link).setupQ ∧
          ((s.takeRequest o).link o.link).takeQ = (s.link o.link).takeQ ∧
          ((s.takeRequest o).link o.link).takeRun = 0) ∧
    (∀ after, after = (s.takeRequest o).link o.link →
      (o.queue = .take → after = { s.link o.link with takeQ := after.takeQ, takeRun := after.takeRun }) ∧
      (o.queue = .setup → after.setupQ.length = 8 → (s.link o.link).holdOff = true →
        after.SendsFrom { s.link o.link with setupQ := after.setupQ, takeRun := 0, holdOff := false } ∧
        after.outgoing = ((s.link o.link).line.map Prod.fst).toList ++
          ((if (s.link o.link).slot.isSome then [] else [.flow .resume]) ++ (s.link o.link).tx)) ∧
      (o.queue = .setup → after.setupQ.length ≠ 8 ∨ (s.link o.link).holdOff = false →
        after = { s.link o.link with setupQ := after.setupQ, takeRun := 0 })) ∧
    (∀ l, l ≠ o.link → (s.eligible l).isSome = true → l - (o.link + 1) < l - (s.pointer + 1))

/-- R2, R3, R65, R94, R116, R126, R128, R136, R180, R181: a request that one of the tests refuses is answered REFUSE
with the reason, and for HELD and LOCKED with the holder; it writes no claim, no entry, no job, no register and no
configuration item. A malformed frame is one of them: MALFORMED_FRAME always answers so. The value tests come first
and refuse exactly the values that the rules name, by their numbers: the bank, then the values refused with BADVALUE,
then the sources, then the own re-entry; a field that its mask leaves out is not examined. That a QUERY of no known
subject is met by QUERY_BANK here is log 13. That a frame queued on an idle line begins at once is log 10. -/
def Obligations.RefusedRequestWritesNothing : Prop :=
  (∀ (s : State) (o : Offer),
    (∀ t fault, o.body = .malformed t fault → s.verdict o = some (fault, none)) ∧
    (∀ fault, s.valueFault o.body = some fault → s.verdict o = some (fault, none)) ∧
    ((∀ t fault, o.body ≠ .malformed t fault) → s.valueFault o.body = none → ∀ reason holder,
      s.verdict o = some (reason, holder) →
        reason ≠ .badBank ∧ reason ≠ .badValue ∧ reason ≠ .badSource ∧ reason ≠ .loop)) ∧
  ∀ (s : State) (o : Offer) (reason : Reason) (holder : Option LinkIx),
    s.offer = some o → s.verdict o = some (reason, holder) →
    ∃ t, exec o.body.command s = .next t ∧
      t = { s with pointer := o.link, links := t.links } ∧
      (∀ l, l ≠ o.link → t.link l = s.link l) ∧
      ((s.takeRequest o).link o.link).Queues s.now (.refuse o.tag o.body.code reason holder) (t.link o.link)

/-- R63, R69, R71, R72, R95, R100, R109, R127, R128, R131: an accepted SELECT, CUT, AUTO, HOLD, KEY-CUT, KEY-SETUP,
TRANS-SETUP or LAYERS makes one entry for each of its banks, in increasing order, with the values it asks for,
clamped, not yet judged, with one shared linked-set mark where the banks are two or more and none where there is one,
all due at F + 2 + COMMAND_LATENCY + lead, writes its claims, each change of holder or kind reported on every UP link,
and is answered ACCEPT with what it stored; no bank record changes but by the clearing of a lever register whose TRANS
element changed holder. That the ACCEPT follows the CLAIM-STATE reports of its step is log 8. The order of the reports
of several banks and SYSTEM is log 9. That a frame queued on an idle line begins at once is log 10. -/
def Obligations.AcceptedChangeIsScheduled : Prop :=
  ∀ (s : State) (o : Offer) (p : Plan) (lead : Byte),
    s.offer = some o → s.planOf o.body = some (.ok p, lead) → s.verdict o = none →
    ∃ (t : State) (due : FieldNo) (answer : TxFrame), exec o.body.command s = .next t ∧
      due = s.ref.counter + BitVec.ofNat 32 (2 + s.commandLatency + lead.toNat) ∧
      answer = .accept o.tag o.body.code (match p.action with
        | .keySetup _ f => .dueKey due f
        | .transSetup f => .dueTrans due f
        | .select _ _ | .cut | .auto | .hold | .keyCut _ _ | .layers _ | .recallEffect _ _ => .due due) ∧
      t = { s with pointer := o.link, schedule := t.schedule, nextSet := s.nextSet + 1, claims := t.claims,
                   banks := t.banks, links := t.links } ∧
      t.schedule = insertEntries
        (p.banks.map fun b =>
          { due := due, origin := .link o.link o.tag, bank := b, action := p.action
            linked := if 2 ≤ p.banks.length then some s.nextSet else none, count := none, dealt := false })
        s.schedule ∧
      t.claims = usedClaims o.link p.elements s.claims ∧
      p.AsAsked o.body ∧
      s.LeversFollowClaims t ∧
      ∀ l, ((s.takeRequest o).link l).QueuesAll s.now
        (claimReportsFor s.claims t.claims ++ if l = o.link then [answer] else []) (t.link l)

/-- R69, R85, R88, R95, R100, R109, R161, R162: an accepted RECALL removes an older recall of its bank with its job
and its staged record, makes one FETCHING entry and its job, and is answered ACCEPT; the older recall's link, if it is
UP, is sent NOTICE SUPERSEDED; the six elements of the bank are used, each change of holder or kind reported on every
UP link. That the ACCEPT follows the CLAIM-STATE reports and the NOTICE of its step is log 8. An active job of the
older recall is abandoned, its access left in flight; any other active job keeps its stage and its access. That a
frame queued on an idle line begins at once is log 10. -/
def Obligations.AcceptedRecallIsQueued : Prop :=
  ∀ (s : State) (o : Offer) (bank register lead : Byte) (b : BankIx) (r : Nat),
    s.RecallsPaired → s.offer = some o → o.body = .recallEffect bank register lead →
    s.bankRegister bank register = .ok (b, r) → s.verdict o = none →
    ∃ t, exec .recallEffect s = .next t ∧
      t = { s with pointer := o.link, schedule := t.schedule, nextSet := s.nextSet + 1, claims := t.claims,
                   banks := t.banks, links := t.links, engine := t.engine } ∧
      t.schedule = insertEntry
        { due := s.ref.counter + BitVec.ofNat 32 (2 + s.commandLatency + lead.toNat), origin := .link o.link o.tag
          bank := b, action := .recallEffect r false, linked := none, count := none, dealt := false }
        (s.schedule.filter fun e => !e.isRecallOf b) ∧
      t.engine.jobs = (s.engine.jobs.filter fun j => !j.isRecallOf b) ++ [.recallEffect b r (.link o.link o.tag)] ∧
      s.engine.KeepsAccess t.engine (fun j => j.isRecallOf b = true) ∧
      (s.engine = { jobs := [], stage := none, port := none } → t.engine.FirstAccess s.now s.items) ∧
      t.claims = usedClaims o.link (bankElements b) s.claims ∧
      (∀ c, t.bank c =
        if c = b then
          { (if claimHolder (s.claim (transElement b)) = some o.link then s.bank b else (s.bank b).clearLever) with
            staging := none }
        else s.bank c) ∧
      (∀ e ∈ s.schedule, e.isRecallOf b = true → ∀ p tag, e.origin = .link p tag → (s.link p).up = true →
        .notice tag .superseded (some b) ∈ (t.link p).outgoing) ∧
      bank.toNat = b.val + 1 ∧ r = register.toNat ∧
      (bankElements b).map Fin.val = (List.range 6).map (6 * b.val + ·) ∧
      ∀ l, ((s.takeRequest o).link l).QueuesAll s.now
        (claimReportsFor s.claims t.claims ++
          (s.noticesTo l .superseded (s.schedule.filter (Entry.isRecallOf b)) ++
            if l = o.link then [.accept o.tag 0x0D
              (.due (s.ref.counter + BitVec.ofNat 32 (2 + s.commandLatency + lead.toNat)))] else [])) (t.link l)

/-- R39, R63, R95, R101, R109, R129: an accepted LEVER completes: it writes its claim and then its clamped position in
the lever register of its bank, which a change of holder has cleared first; it is not answered: the frames it adds, on
its own link and on every other, are the CLAIM-STATE reports of the claim it changed, and where it changed none it
adds no frame. That a frame queued on an idle line begins at once is log 10. -/
def Obligations.AcceptedLeverWritesItsRegister : Prop :=
  ∀ (s : State) (o : Offer) (bank : Byte) (position : Nat) (b : BankIx),
    s.offer = some o → o.body = .lever bank position → s.bankOf bank = .ok b → s.verdict o = none →
    ∃ t, exec .lever s = .next t ∧
      t = { s with pointer := o.link, claims := t.claims, banks := t.banks, links := t.links } ∧
      t.claims = usedClaims o.link [transElement b] s.claims ∧
      t.bank b = { s.bank b with
        lever := some { position := min position 1023, writer := o.link }
        working := if claimHolder (s.claim (transElement b)) = some o.link then s.working b
                   else (s.working b).leverCleared } ∧
      (∀ c, c ≠ b → t.bank c = s.bank c) ∧
      bank.toNat = b.val + 1 ∧ (transElement b).val = 6 * b.val + 1 ∧
      (∀ l, ((s.takeRequest o).link l).QueuesAll s.now (claimReportsFor s.claims t.claims) (t.link l)) ∧
      (claimHolder (s.claim (transElement b)) = some o.link → t.links = (s.takeRequest o).links)

/-- R94, R102, R103, R104, R109, R131: an accepted CLAIM leaves its element locked by its link at age 0, and an
accepted RELEASE or BREAK leaves it empty; each is answered ACCEPT with the element, the change is reported on every
UP link, and no other entry of the Claim Table changes. That the ACCEPT follows the CLAIM-STATE report of its step is
log 8. That a frame queued on an idle line begins at once is log 10. -/
def Obligations.ClaimReleaseAndBreakWriteTheirElement : Prop :=
  ∀ (s : State) (o : Offer) (number : Byte) (e : ElemIx) (c : Option Claim),
    s.offer = some o → s.elementOf number = .ok e → s.verdict o = none →
    (o.body = .claim number ∧ c = some { holder := o.link, lock := true, age := 0, orphaned := false } ∨
      o.body = .release number ∧ c = none ∨ o.body = .breakLock number ∧ c = none) →
    ∃ t, exec o.body.command s = .next t ∧
      t = { s with pointer := o.link, claims := t.claims, banks := t.banks, links := t.links } ∧
      t.claim e = c ∧ (∀ f, f ≠ e → t.claim f = s.claim f) ∧
      s.LeversFollowClaims t ∧
      e.val = number.toNat ∧
      ∀ l, ((s.takeRequest o).link l).QueuesAll s.now
        (claimReportsFor s.claims t.claims ++ if l = o.link then [.accept o.tag o.body.code (.element e)] else [])
        (t.link l)

/-- R95, R109, R130, R161, R167, R170: an accepted STORE queues a job with the snapshot of its bank's published copy
and takes no claim; an accepted SAVE-CONFIG queues a job and uses SYSTEM, the change reported on every UP link; each
is answered ACCEPT. A job that finds the queue empty and the port idle is active at once, with its first access on the
port. That a SAVE-CONFIG's ACCEPT follows the CLAIM-STATE report of its step is log 8. That a frame queued on an idle
line begins at once is log 10. -/
def Obligations.AcceptedStoreAndSaveQueueAJob : Prop :=
  ∀ (s : State) (o : Offer), s.offer = some o → s.verdict o = none →
    (∀ (bank register : Byte) (b : BankIx) (r : Nat), o.body = .store bank register →
      s.bankRegister bank register = .ok (b, r) →
      ∃ t, exec .store s = .next t ∧
        t = { s with pointer := o.link, engine := t.engine, links := t.links } ∧
        t.engine.jobs = s.engine.jobs ++ [.store o.link o.tag b r (s.published b).snapshot] ∧
        bank.toNat = b.val + 1 ∧ r = register.toNat ∧
        (s.engine = { jobs := [], stage := none, port := none } → t.engine.FirstAccess s.now s.items) ∧
        (s.engine.stage.isSome = true ∨ s.engine.port.isSome = true →
          t.engine = { s.engine with jobs := t.engine.jobs }) ∧
        (∀ l, l ≠ o.link → t.link l = s.link l) ∧
        ((s.takeRequest o).link o.link).Queues s.now (.accept o.tag 0x0E (.register r)) (t.link o.link)) ∧
    (o.body = .saveConfig →
      ∃ t, exec .saveConfig s = .next t ∧
        t = { s with pointer := o.link, engine := t.engine, claims := t.claims, links := t.links } ∧
        t.engine.jobs = s.engine.jobs ++ [.save o.link o.tag] ∧
        (s.engine = { jobs := [], stage := none, port := none } → t.engine.FirstAccess s.now s.items) ∧
        (s.engine.stage.isSome = true ∨ s.engine.port.isSome = true →
          t.engine = { s.engine with jobs := t.engine.jobs }) ∧
        t.claims = usedClaims o.link [systemElement] s.claims ∧
        ∀ l, ((s.takeRequest o).link l).QueuesAll s.now
          (claimReportsFor s.claims t.claims ++ if l = o.link then [.accept o.tag 0x11 .plain] else []) (t.link l))

/-- R89, R162: a CANCEL removes every entry of its link with the tag it names, with the jobs and staged records of the
recalls among them, sends no notice for them, and is answered ACCEPT with their number. An active job among them is
abandoned, its access left in flight; any other active job keeps its stage and its access. That a frame queued on an
idle line begins at once is log 10. -/
def Obligations.CancelRemovesItsLinksEntries : Prop :=
  ∀ (s : State) (o : Offer) (named : Byte),
    s.RecallsPaired → s.offer = some o → o.body = .cancel named → s.verdict o = none →
    ∃ t, exec .cancel s = .next t ∧
      t = { s with pointer := o.link, schedule := t.schedule, banks := t.banks, links := t.links,
                   engine := t.engine } ∧
      t.schedule = (s.schedule.filter fun e => e.origin != .link o.link named) ∧
      (∀ j, j ∈ t.engine.jobs ↔ j ∈ s.engine.jobs ∧ ∀ b r, j ≠ .recallEffect b r (.link o.link named)) ∧
      s.engine.KeepsAccess t.engine (fun j => ∃ b r, j = .recallEffect b r (.link o.link named)) ∧
      (∀ b, t.bank b =
        if s.schedule.any fun e => e.isRecallOf b && e.origin == .link o.link named then
          { s.bank b with staging := none }
        else s.bank b) ∧
      (∀ l, l ≠ o.link → t.link l = s.link l) ∧
      ((s.takeRequest o).link o.link).Queues s.now
        (.accept o.tag 0x0F (.count (s.schedule.filter fun e => e.origin == .link o.link named).length)) (t.link o.link)

/-- R67, R107, R109, R177, R179, R180, R181: an accepted CONFIG stores its value in its item, a number clamped to the
item's range and a GPI_MODE without its spare bits; the storing of a group item empties the entries whose holders are
no longer members; the changes of claims are reported on every UP link; the storing of a GPI_MODE resamples its line,
one that stays OUT too (log 28), and sets an OUT line's level; and the ACCEPT carries the item and the value stored.
That it follows the CLAIM-STATE reports of its step is log 8. The order of the reports of several banks and SYSTEM,
those of the touch before those of the pruning, is log 9. That a frame queued on an idle line begins at once is log
10. -/
def Obligations.AcceptedConfigStoresItsValue : Prop :=
  ∀ (s : State) (o : Offer) (item : Byte) (value : BitVec 16) (number : Nat) (v : BitVec 16),
    s.offer = some o → o.body = .config item value → s.planConfig item value = .ok (number, v) → s.verdict o = none →
    ∃ t, exec .config s = .next t ∧
      t = { s with pointer := o.link, items := t.items, claims := t.claims, banks := t.banks, links := t.links,
                   lines := t.lines } ∧
      t.item number = v ∧ (∀ n, n ≠ number → t.item n = s.item n) ∧
      (∀ e, t.claim e =
        if isGroupItem number then
          (pick (usedClaims o.link [systemElement] s.claims) e).filter fun c => t.member c.holder e
        else pick (usedClaims o.link [systemElement] s.claims) e) ∧
      (∀ n : LineIx, t.line n =
        if number = 64 + n.val then
          { s.line n with timer := none, accepted := (s.line n).pin,
                          driven := drivenLevel s.table (t.gpiMode n) (t.gpiArg n) }
        else if number = 72 + n.val then
          { s.line n with driven := drivenLevel s.table (t.gpiMode n) (t.gpiArg n) }
        else s.line n) ∧
      number = item.toNat ∧ v.toNat = storedValue number value.toNat ∧
      s.LeversFollowClaims t ∧
      ∀ l, ((s.takeRequest o).link l).QueuesAll s.now
        (claimReportsFor s.claims (usedClaims o.link [systemElement] s.claims) ++
          (claimReportsFor (usedClaims o.link [systemElement] s.claims) t.claims ++
            if l = o.link then [.accept o.tag 0x10 (.item number v)] else [])) (t.link l)

/-- R137, R184: an accepted RESET empties the schedule list, the Claim Table, the job queue, the tally table, the
gathering and every queue, gives both copies of every bank their defaults, returns F and the counts to 0, and keeps the
Configuration Table, the strap sample, CFGDEFAULT, RUNNING, the reference state and period, the state of each link and
the frame on its line; its ACCEPT is the first frame of its link after that frame. That no CLAIM-STATE for its own SYSTEM
touch is sent, and that a RESUME which the request's leaving of its queue began at once on a free line is such a frame, are
log 21 and log 10. -/
def Obligations.SoftResetKeepsConfigurationAndReference : Prop :=
  ∀ (s : State) (o : Offer), s.offer = some o → o.body = .reset → s.verdict o = none →
    ∃ t, exec .reset s = .next t ∧
      t = { s with
        schedule := [], nextSet := t.nextSet, sweep := none, banks := Vector.replicate 4 Bank.default
        claims := Vector.replicate 25 none, links := t.links, pointer := 5
        ref := { s.ref with counter := 0, spurious := 0 }
        table := none, gathering := none
        paramPort := { s.paramPort with waiting := [] }, tallyPort := { s.tallyPort with waiting := [] }
        engine := { s.engine with jobs := [], stage := none }, lines := t.lines } ∧
      (∀ n, t.line n = { s.line n with edge := false, dropped := false,
                                       driven := drivenLevel none (s.gpiMode n) (s.gpiArg n) }) ∧
      (∀ l, t.link l = { s.link l with
        receiver := .hunting, takeQ := [], setupQ := [], holdOff := false, slot := none, tx := (t.link l).tx
        line := (t.link l).line, takeRun := 0, frameErrors := 0, overflow := 0 }) ∧
      (∀ l, (t.link l).outgoing =
        (((s.takeRequest o).link l).line.map Prod.fst).toList ++ if l = o.link then [.accept o.tag 0x12 .plain] else [])

/-- R91, R136, R158, R178: a QUERY of SCHEDULE, LINK, GPI, CONFIG or FIELD (the commands querySchedule, queryLink,
queryGpi, queryConfig and queryField) is answered by its report of the state as it stands, to the asking link alone,
and changes nothing but the edge and dropped flags that a QUERY GPI with the clear option shows. That a frame queued
on an idle line begins at once is log 10. -/
def Obligations.QueriesAnswerTheStateAsItStands : Prop :=
  ∀ (s : State) (o : Offer) (subject argument : Byte),
    s.offer = some o → o.body = .query subject argument → s.verdict o = none → 3 ≤ subject.toNat →
    ∃ t answer, exec o.body.command s = .next t ∧
      t = { s with pointer := o.link, links := t.links, lines := t.lines } ∧
      (∀ l, l ≠ o.link → t.link l = s.link l) ∧
      ((s.takeRequest o).link o.link).QueuesAll s.now answer (t.link o.link) ∧
      (∀ n, t.line n = if subject = 5 ∧ argument = 1 then { s.line n with edge := false, dropped := false }
        else s.line n) ∧
      (subject = 3 → ∃ reports : List (List Entry),
        reports.flatten = s.schedule.filter (fun e => e.origin.isLink o.link) ∧
        (∀ r ∈ reports, r.length ≤ 12) ∧ reports.length = max 1 ((reports.flatten.length + 11) / 12) ∧
        answer = reports.zipIdx.map fun r => .scheduleList o.tag r.2 reports.length s.ref.counter r.1) ∧
      (subject = 4 → ∃ k, k = (s.takeRequest o).link o.link ∧
        answer = [.linkCounts o.tag o.link k.up k.holdOff k.takeQ.length k.setupQ.length k.tx.length
          (s.promised o.link) k.frameErrors k.overflow]) ∧
      (subject = 5 → answer = [.gpiState o.tag ((indices 8).map fun n =>
        { out := modeOut (s.gpiMode n)
          level := if modeOut (s.gpiMode n) then (s.line n).driven.getD false else (s.line n).accepted
          pin := (s.line n).pin, edge := (s.line n).edge, dropped := (s.line n).dropped })]) ∧
      (subject = 6 → answer = [.configValue o.tag argument.toNat (s.item argument.toNat)]) ∧
      (subject = 7 → answer = [.fieldStatus o.tag s.ref.counter s.ref.locked s.cfgDefault s.running s.ref.period
        s.ref.spurious])

/-- R109, R121, R136: a QUERY BANK (queryBank) is answered by one BANK-STATE of the published copy, and a QUERY CLAIMS
(queryClaims) by one CLAIM-STATE of the table as it stands, on the asking link alone; an unsent report for the same
subject is replaced in its place, and otherwise the answer is the last frame the link has to send. That a frame queued
on an idle line begins at once is log 10. -/
def Obligations.BankAndClaimQueriesTakeTheirReportPlace : Prop :=
  ∀ (s : State) (o : Offer) (subject argument : Byte) (report : TxFrame),
    s.offer = some o → o.body = .query subject argument →
    ((∃ b, subject = 1 ∧ s.queryBankOf argument = .ok b ∧
        report = .bankState b (s.bank b).publishedFor (s.published b)) ∨
      (∃ q, subject = 2 ∧ s.claimSubject argument = .ok q ∧
        report = .claimState q ((subjectElements q).map fun e => (e, s.claim e)))) →
    ∃ t k, exec o.body.command s = .next t ∧
      t = { s with pointer := o.link, links := t.links } ∧
      (∀ l, l ≠ o.link → t.link l = s.link l) ∧
      k = (s.takeRequest o).link o.link ∧ k.Queues s.now report (t.link o.link) ∧
      (∀ f, report.replaces f = true ↔ reportPlace f = reportPlace report)

/-! ### Transition arithmetic (R50 to R62) -/

/-- R54: the lever mapping, with its two end bands, its range inside the span, its growth, and the clamped register. -/
def Obligations.LeverPositionsMapOntoProgress : Prop :=
  (∀ L, L ≤ 8 → leverMap L = 0) ∧
  (∀ L, 1014 ≤ L → L ≤ 1023 → leverMap L = 4096) ∧
  (∀ L, 9 ≤ L → L ≤ 1013 → leverMap L = ((L - 8) * 4096 + 503) / 1006 ∧
    leverMap L = roundHalfUp ((L - 8) * 4096) 1006 ∧ 4 ≤ leverMap L ∧ leverMap L ≤ 4092) ∧
  (leverMap 9 = 4 ∧ leverMap 1013 = 4092) ∧
  (∀ L M, L ≤ M → M ≤ 1023 → leverMap L ≤ leverMap M) ∧
  (∀ L, 8 ≤ L → L ≤ 1013 → leverMap (L + 1) = leverMap L + 4 ∨ leverMap (L + 1) = leverMap L + 5) ∧
  ((1014 - 8) * 4096 + 503) / 1006 = 4096 ∧
  (∀ (r : BankRecord) (x : LeverReading) (n : FieldNo) (dwell : Nat), r.sense = .normal →
    r.readLever (some x) n dwell = r.engage n dwell (leverMap x.position)) ∧
  (∀ (s : State) (l : LinkIx) (b : BankIx) (p : Nat),
    ((s.writeLever l b p).bank b).lever = some { position := min p 1023, writer := l })

/-- R58, R59: the wipe edge width, soft slope and lower threshold, their ranges and growth, as the record carries
them. -/
def Obligations.WipeTermsFollowSoftnessAndProgress : Prop :=
  ∀ (softness : Nat), softness ≤ 255 →
    edgeWidth softness = 4 * softness ∧ edgeWidth softness ≤ 1020 ∧
    (0 < edgeWidth softness → softSlope softness = 65536 / edgeWidth softness ∧
      65536 - edgeWidth softness + 1 ≤ edgeWidth softness * softSlope softness ∧
      edgeWidth softness * softSlope softness ≤ 65536) ∧
    (edgeWidth softness = 0 → softSlope softness = 0) ∧
    (∀ P, lowerThreshold P softness = ((P * (4096 + edgeWidth softness) / 4096 : Nat) : Int) - edgeWidth softness) ∧
    lowerThreshold 0 softness = -(edgeWidth softness : Int) ∧
    lowerThreshold 4095 softness = (if 0 < edgeWidth softness then 4094 else 4095) ∧
    lowerThreshold 4096 softness = 4096 ∧
    (∀ P Q, P ≤ Q → lowerThreshold P softness ≤ lowerThreshold Q softness) ∧
    (∀ P, P ≤ 4095 → -1020 ≤ lowerThreshold P softness ∧ lowerThreshold P softness ≤ 4095) ∧
    (∀ (b : BankIx) (n : FieldNo) (r : BankRecord), r.softness = softness →
      (paramRecord b n r).edge = edgeWidth softness ∧ (paramRecord b n r).slope = softSlope softness ∧
      (paramRecord b n r).tlo = lowerThreshold r.progress softness)

/-- R38, R57, R60, R61, R62: the other terms of the field parameter record: the mix coefficient and background mark, the
border band and its colour, the REVERSE flag, and each keyer's lift, slope, level and wipe mark. -/
def Obligations.ParameterRecordCarriesItsTerms : Prop :=
  ∀ (b : BankIx) (n : FieldNo) (r : BankRecord),
    (paramRecord b n r).mix = (if r.phase ≠ .idle ∧ r.kind = .mix ∧ hasBkgd r.layers = true then r.progress else 0) ∧
    ((paramRecord b n r).wiped = true ↔ r.phase ≠ .idle ∧ r.kind = .wipe ∧ hasBkgd r.layers = true) ∧
    (paramRecord b n r).border = (if 0 < r.progress then 4 * r.borderWidth else 0) ∧
    ((paramRecord b n r).borderColour.source = 49 ∧ r.borderColour = .bkgd1 ∨
      (paramRecord b n r).borderColour.source = 50 ∧ r.borderColour = .bkgd2) ∧
    ((paramRecord b n r).reverse = true ↔ r.direction = .reverse ∨ r.direction = .flipflop ∧ r.flip = true) ∧
    ∀ k, pick (paramRecord b n r).keyers k =
      { fill := (r.keyer k).fill, key := (r.keyer k).key, kind := (r.keyer k).kind, invert := (r.keyer k).invert
        mark := if hasKey r.layers k = true ∧ r.phase ≠ .idle ∧ r.kind = .wipe then
          (if (r.keyer k).onAir then .wipedOff else .wipedOn) else .none
        lift := 4 * (r.keyer k).clip, slope := 64 + 4 * (r.keyer k).gain, level := (r.keyer k).level }

/-- R51, R52, R53: a run of auto steps begun from IDLE, or with R recomputed, stays below 4096 until its last step, which
ends it exactly; and an uninterrupted AUTO from IDLE at rate D publishes AUTO for D - 1 fields and completes at the
D-th. -/
def Obligations.AutoRunsCompleteAtTheirRate : Prop :=
  (∀ D P, 1 ≤ D → D ≤ 999 → 1 ≤ P → P ≤ 4095 →
    recomputed D P = (D * (4096 - P) + 4095) / 4096 ∧ 1 ≤ recomputed D P ∧ recomputed D P ≤ D) ∧
  (∀ D P R, 1 ≤ D → D ≤ 999 → (P = 0 ∧ R = D ∨ 1 ≤ P ∧ P ≤ 4095 ∧ R = recomputed D P) →
    (∀ k, k < R → (autoRun k (P, R)).1 < 4096 ∧ (autoRun k (P, R)).2 = R - k ∧
      1 ≤ autoStepSize (autoRun k (P, R)).1 (autoRun k (P, R)).2 ∧
      autoStepSize (autoRun k (P, R)).1 (autoRun k (P, R)).2 ≤ 4096 - (autoRun k (P, R)).1) ∧
    (autoRun R (P, R)).1 = 4096) ∧
  (∀ (k : Bank) (n : FieldNo) (dwell m : Nat), k.working.phase = .idle → k.working.progress = 0 →
    1 ≤ k.working.rate → k.working.rate ≤ 999 → k.lever = none → 1 ≤ m → m ≤ k.working.rate →
    if m < k.working.rate then
      (((k.auto n dwell).updates n dwell m).published.phase = .auto ∧
        ((k.auto n dwell).updates n dwell m).published.progress = (autoRun m (0, k.working.rate)).1 ∧
        ((k.auto n dwell).updates n dwell m).published.remaining = k.working.rate - m)
    else
      (((k.auto n dwell).updates n dwell m).published.phase = .idle ∧
        ((k.auto n dwell).updates n dwell m).published.progress = 0 ∧
        ((k.auto n dwell).updates n dwell m).published.done = true))

/-! ### The Transition Controller (R19 to R48) -/

/-- R22, R24, R36: a CUT is refused on an IDLE bank with no layers to change, held back while the start test fails, and
otherwise goes ahead; performed, it completes the transition, after which the start test fails at the same field. -/
def Obligations.CutCompletesTheTransition : Prop :=
  ∀ (s : State) (b : BankIx) (n : FieldNo) (dwell prepare : Nat), dwell ≤ 15 →
    ((s.working b).startTest n = true ↔
      atLeast n (s.working b).dwellEnd = true ∧
      (hasBkgd (s.working b).layers = true → atLeast n (s.working b).bReady = true) ∧
      ∀ k, hasKey (s.working b).layers k = true → ((s.working b).keyer k).onAir = false →
        atLeast n ((s.working b).keyer k).fillReady = true ∧
        (((s.working b).keyer k).kind = .linear → atLeast n ((s.working b).keyer k).keyReady = true)) ∧
    s.judge b .cut n =
      (if (s.working b).phase ≠ .idle then .goAhead 0 none
       else if (s.working b).layers = 0 then .refuse .nothing
       else if (s.working b).startTest n = true then .goAhead 0 none
       else .holdBack) ∧
    ∃ r, (s.bank b).perform .cut n dwell prepare = { s.bank b with working := r } ∧
      r = { s.working b with
        a := if hasBkgd (s.working b).layers then (s.working b).b else (s.working b).a
        b := if hasBkgd (s.working b).layers then (s.working b).a else (s.working b).b
        bReady := if hasBkgd (s.working b).layers then n else (s.working b).bReady
        keyers := r.keyers
        flip := if (s.working b).direction = .flipflop then !(s.working b).flip else (s.working b).flip
        phase := .idle, progress := 0, remaining := 0, engagement := .parked, done := true
        dwellEnd := n + BitVec.ofNat 32 (1 + dwell) } ∧
      (∀ k, r.keyer k =
        if hasKey (s.working b).layers k then
          { (s.working b).keyer k with
            onAir := !((s.working b).keyer k).onAir
            level := if ((s.working b).keyer k).onAir then 0 else 4096 }
        else (s.working b).keyer k) ∧
      r.startTest n = false

/-- R25, R26, R51: an AUTO on an IDLE bank is judged as a CUT is, held back also while the step mark is set, and takes
its first step at once; on a bank in LEVER or PAUSED it resumes from P with R recomputed; on one in AUTO it changes
nothing and its origin is told DUPLICATE. -/
def Obligations.AutoStartsResumesOrIsADuplicate : Prop :=
  ∀ (s : State) (b : BankIx) (n : FieldNo) (dwell prepare : Nat), (s.working b).Legal →
    ((s.working b).phase = .idle →
      s.judge b .auto n =
        (if (s.working b).layers = 0 then .refuse .nothing
         else if (s.working b).startTest n = true ∧ (s.bank b).stepMark = false then .goAhead 0 none
         else .holdBack) ∧
      ((s.bank b).perform .auto n dwell prepare).stepMark = true ∧
      (2 ≤ (s.working b).rate →
        ((s.bank b).perform .auto n dwell prepare).working = BankRecord.setLevels { s.working b with
          phase := .auto, engagement := .pickup, remaining := (s.working b).rate - 1
          progress := roundHalfUp 4096 (s.working b).rate } ∧
        4 ≤ roundHalfUp 4096 (s.working b).rate ∧ roundHalfUp 4096 (s.working b).rate ≤ 2048) ∧
      ((s.working b).rate = 1 →
        ((s.bank b).perform .auto n dwell prepare).working = (s.working b).complete n dwell false)) ∧
    ((s.working b).phase = .auto → s.judge b .auto n = .goAhead 0 (some .duplicate) ∧
      (s.bank b).perform .auto n dwell prepare = s.bank b) ∧
    ((s.working b).phase = .lever ∨ (s.working b).phase = .paused → s.judge b .auto n = .goAhead 0 none ∧
      (s.bank b).perform .auto n dwell prepare = { s.bank b with working := { s.working b with
        phase := .auto, engagement := .pickup, remaining := recomputed (s.working b).rate (s.working b).progress } })

/-- R27: a HOLD pauses a bank in AUTO with P and the key levels kept, and is IGNORED in any other state; no other action
than AUTO, CUT or a recall, no clearing of the lever register, and no field update but one whose reading picks the
transition up moves a paused transition: it stays without a reading, with one that only fixes the side, and with one short
of P from either side. -/
def Obligations.HoldPausesAnAuto : Prop :=
  ∀ (s : State) (b : BankIx) (n : FieldNo) (dwell prepare : Nat),
    ((s.working b).phase = .auto → s.judge b .hold n = .goAhead 0 none ∧
      (s.bank b).perform .hold n dwell prepare = { s.bank b with working := { s.working b with
        phase := .paused, remaining := 0, engagement := .pickup } }) ∧
    ((s.working b).phase ≠ .auto → s.judge b .hold n = .goAhead 0 (some .ignored) ∧
      (s.bank b).perform .hold n dwell prepare = s.bank b) ∧
    ((s.working b).phase = .paused → (∀ a : Action, a ≠ .cut → a ≠ .auto → (∀ r st, a ≠ .recallEffect r st) →
        ((s.bank b).perform a n dwell prepare).working.phase = .paused ∧
        ((s.bank b).perform a n dwell prepare).working.progress = (s.working b).progress) ∧
      (s.bank b).clearLever.working.phase = .paused ∧
      (s.bank b).clearLever.working.progress = (s.working b).progress ∧
      ((s.bank b).lever = none ∨
          (∃ x, (s.bank b).lever = some x ∧
            ((s.working b).engagement = .pickup ∧
                leverValue (s.working b).sense x.position ≠ (s.working b).progress ∨
              (s.working b).engagement = .pickupBelow ∧
                leverValue (s.working b).sense x.position < (s.working b).progress ∨
              (s.working b).engagement = .pickupAbove ∧
                (s.working b).progress < leverValue (s.working b).sense x.position)) →
        ((s.bank b).publish n dwell).published.phase = .paused ∧
        ((s.bank b).publish n dwell).published.progress = (s.working b).progress))

/-- R23, R28: the key readiness test, the judgement of a KEY-CUT, and what it does: it sets the flag and the level of one
keyer and nothing else, so that a keyer cut off passes the same test again. -/
def Obligations.KeyCutTurnsOneKeyer : Prop :=
  ∀ (s : State) (b : BankIx) (k : KeyerIx) (on : Bool) (n : FieldNo) (dwell prepare : Nat),
    ((s.working b).keyReadyTest n k = true ↔ atLeast n ((s.working b).keyer k).fillReady = true ∧
      (((s.working b).keyer k).kind = .linear → atLeast n ((s.working b).keyer k).keyReady = true)) ∧
    s.judge b (.keyCut k on) n =
      (if hasKey (s.working b).layers k = true ∧ (s.working b).phase ≠ .idle then .refuse .busy
       else if on = true ∧ ((s.working b).keyer k).onAir = false ∧ (s.working b).keyReadyTest n k = false then .holdBack
       else .goAhead 0 none) ∧
    ∃ r, (s.bank b).perform (.keyCut k on) n dwell prepare = { s.bank b with working := r } ∧
      (((s.working b).keyer k).onAir = on → r = s.working b) ∧
      (((s.working b).keyer k).onAir ≠ on → r = { s.working b with keyers := r.keyers } ∧
        (∀ j, r.keyer j = if j = k then
          { (s.working b).keyer k with onAir := on, level := if on then 4096 else 0 } else (s.working b).keyer j)) ∧
      r.keyReadyTest n k = (s.working b).keyReadyTest n k ∧
      (hasKey r.layers k = true → (r.keyer k).onAir = on → ((r.complete n dwell false).keyer k).onAir = !on)

/-- R29: a SELECT of the A bus goes ahead in every state unless its new source would close a loop; it writes A alone, and
a completion passes the new source to B. -/
def Obligations.SelectOfAIsHot : Prop :=
  ∀ (s : State) (b : BankIx) (c : Source) (n : FieldNo) (dwell prepare : Nat),
    s.judge b (.select .a c) n =
      (if c = (s.working b).a then .goAhead 0 none
       else if (∃ d, reentered c = some d ∧ s.inClosure d b = true) then .refuse .loop
       else .goAhead 1 none) ∧
    (s.bank b).perform (.select .a c) n dwell prepare =
      { s.bank b with working := { s.working b with a := c } } ∧
    (hasBkgd (s.working b).layers = true → ∀ byLever,
      (((s.bank b).perform (.select .a c) n dwell prepare).working.complete n dwell byLever).b = c)

/-- R8, R30, R31, R32, R33, R81: SELECT of B, KEY-SETUP, TRANS-SETUP and LAYERS: each is BUSY where it would change a
running transition's incoming picture, keyer sources, shape or layers, and counts the sources it changes; performed, each
writes the values it selects; a slot whose source changes is ready PREPARE_FIELDS after N, and any other keeps its ready
field; a rate that changes in AUTO recomputes R; on an empty layer set a CUT or an AUTO is refused NOTHING and the lever
starts nothing. -/
def Obligations.SetupActionsWriteWhatTheySelect : Prop :=
  ∀ (s : State) (b : BankIx) (n : FieldNo) (dwell prepare : Nat),
    (∀ c : Source,
      s.judge b (.select .b c) n =
        (if (s.working b).phase ≠ .idle ∧ hasBkgd (s.working b).layers = true then .refuse .busy
         else if s.closesLoop b (s.working b).b c = true then .refuse .loop
         else .goAhead (if c = (s.working b).b then 0 else 1) none) ∧
      (s.bank b).perform (.select .b c) n dwell prepare = { s.bank b with working := { s.working b with
        b := c
        bReady := if c = (s.working b).b then (s.working b).bReady else n + BitVec.ofNat 32 prepare } }) ∧
    (∀ (k : KeyerIx) (f : KeyFields),
      s.judge b (.keySetup k f) n =
        (if hasKey (s.working b).layers k = true ∧ (s.working b).phase ≠ .idle ∧
            (f.fill.getD ((s.working b).keyer k).fill ≠ ((s.working b).keyer k).fill ∨
              f.key.getD ((s.working b).keyer k).key ≠ ((s.working b).keyer k).key ∨
              f.kind.getD ((s.working b).keyer k).kind ≠ ((s.working b).keyer k).kind) then .refuse .busy
         else if s.closesLoop b ((s.working b).keyer k).fill (f.fill.getD ((s.working b).keyer k).fill) = true ∨
            s.closesLoop b ((s.working b).keyer k).key (f.key.getD ((s.working b).keyer k).key) = true then .refuse .loop
         else .goAhead ((if f.fill.getD ((s.working b).keyer k).fill = ((s.working b).keyer k).fill then 0 else 1) +
            (if f.key.getD ((s.working b).keyer k).key = ((s.working b).keyer k).key then 0 else 1)) none) ∧
      ∃ r, (s.bank b).perform (.keySetup k f) n dwell prepare = { s.bank b with working := r } ∧
        r = { s.working b with keyers := r.keyers } ∧ (∀ j, j ≠ k → r.keyer j = (s.working b).keyer j) ∧
        r.keyer k = { (s.working b).keyer k with
          fill := f.fill.getD ((s.working b).keyer k).fill, key := f.key.getD ((s.working b).keyer k).key
          kind := f.kind.getD ((s.working b).keyer k).kind, clip := f.clip.getD ((s.working b).keyer k).clip
          gain := f.gain.getD ((s.working b).keyer k).gain, invert := f.invert.getD ((s.working b).keyer k).invert
          fillReady := if (r.keyer k).fill = ((s.working b).keyer k).fill then ((s.working b).keyer k).fillReady
            else n + BitVec.ofNat 32 prepare
          keyReady := if (r.keyer k).key = ((s.working b).keyer k).key then ((s.working b).keyer k).keyReady
            else n + BitVec.ofNat 32 prepare }) ∧
    (∀ f : TransFields,
      (s.judge b (.transSetup f) n = .refuse .busy ↔ (s.working b).phase ≠ .idle ∧
        (f.kind.getD (s.working b).kind ≠ (s.working b).kind ∨
          f.pattern.getD (s.working b).pattern ≠ (s.working b).pattern ∨
          f.direction.getD (s.working b).direction ≠ (s.working b).direction)) ∧
      (s.judge b (.transSetup f) n ≠ .refuse .busy → s.judge b (.transSetup f) n = .goAhead 0 none) ∧
      (s.bank b).perform (.transSetup f) n dwell prepare = { s.bank b with working := { s.working b with
        kind := f.kind.getD (s.working b).kind, rate := f.rate.getD (s.working b).rate
        pattern := f.pattern.getD (s.working b).pattern, direction := f.direction.getD (s.working b).direction
        softness := f.softness.getD (s.working b).softness
        borderWidth := f.borderWidth.getD (s.working b).borderWidth
        borderColour := f.borderColour.getD (s.working b).borderColour
        remaining := if (s.working b).phase = .auto ∧ f.rate.getD (s.working b).rate ≠ (s.working b).rate then
          recomputed (f.rate.getD (s.working b).rate) (s.working b).progress else (s.working b).remaining } }) ∧
    (∀ set, s.judge b (.layers set) n = (if (s.working b).phase = .idle then .goAhead 0 none else .refuse .busy) ∧
      (s.bank b).perform (.layers set) n dwell prepare =
        { s.bank b with working := { s.working b with layers := set } }) ∧
    ((s.working b).phase = .idle → (s.working b).layers = 0 →
      s.judge b .cut n = .refuse .nothing ∧ s.judge b .auto n = .refuse .nothing ∧
      ∀ v, ((s.working b).engage n dwell v).phase = .idle)

/-- R17, R18, R34, R35, R81: a recall is refused LOOP if any of its sources, those of A and B and the fill and key of
each keyer that the record lists, would be a re-entry code that closes a loop and is not there already, and otherwise
counts those of the ten that it changes; performed, it aborts a running transition without exchange or toggle, takes
every setting of its record, turns off each keyer that the record does not list, parks the lever, and leaves sense,
flip, dwell-end and DONE. -/
def Obligations.RecallTakesItsWholeRecord : Prop :=
  ∀ (s : State) (b : BankIx) (register : Nat) (n : FieldNo) (dwell prepare : Nat) (e : Effect),
    (s.working b).Legal → (s.bank b).staging = some e →
    s.judge b (.recallEffect register true) n =
      (if s.closesLoop b (s.working b).a e.a = true ∨ s.closesLoop b (s.working b).b e.b = true ∨
          ∃ k y, pick e.keyers k = some y ∧ (s.closesLoop b ((s.working b).keyer k).fill y.fill = true ∨
            s.closesLoop b ((s.working b).keyer k).key y.key = true) then .refuse .loop
       else .goAhead ((if e.a = (s.working b).a then 0 else 1) + (if e.b = (s.working b).b then 0 else 1) +
          ((List.finRange 4).map fun k => match pick e.keyers k with
            | some y => (if y.fill = ((s.working b).keyer k).fill then 0 else 1) +
                (if y.key = ((s.working b).keyer k).key then 0 else 1)
            | none => 0).sum) none) ∧
    (∀ held c, s.closesLoop b held c = true ↔
      c ≠ held ∧ ∃ d : BankIx, c.val = 51 + d.val ∧ s.inClosure d b = true) ∧
    ∃ r, (s.bank b).perform (.recallEffect register true) n dwell prepare =
        { s.bank b with working := r, staging := none } ∧
      r = { s.working b with
        a := e.a, b := e.b, kind := e.kind, rate := e.rate, pattern := e.pattern, direction := e.direction
        softness := e.softness, borderWidth := e.borderWidth, borderColour := e.borderColour, layers := e.layers
        keyers := r.keyers, phase := .idle, progress := 0, remaining := 0, engagement := .parked
        bReady := if e.b = (s.working b).b then (s.working b).bReady else n + BitVec.ofNat 32 prepare
        aborted := (s.working b).aborted || (s.working b).phase != .idle } ∧
      ∀ k, r.keyer k =
        match pick e.keyers k with
        | some y =>
          { fill := y.fill, key := y.key, kind := y.kind, clip := y.clip, gain := y.gain, invert := y.invert
            onAir := y.onAir, level := if y.onAir then 4096 else 0
            fillReady := if y.fill = ((s.working b).keyer k).fill then ((s.working b).keyer k).fillReady
              else n + BitVec.ofNat 32 prepare
            keyReady := if y.key = ((s.working b).keyer k).key then ((s.working b).keyer k).keyReady
              else n + BitVec.ofNat 32 prepare }
        | none => { (s.working b).keyer k with onAir := false, level := 0 }

/-- R41, R42, R43, R44, R45, R46, R47, R55: the engagement rule that a bank's state and engagement call for at a reading
V. The field update of every bank takes the auto step of an AUTO whose step mark is clear, then reads the register once:
its V is the mapped position, 4096 minus it under INVERTED, and with no reading the engagement rules do nothing; then it
sets the key levels. -/
def Obligations.LeverEngagesAsItsStateCallsFor : Prop :=
  ∀ (r : BankRecord) (n : FieldNo) (dwell v : Nat), v ≤ 4096 →
    (r.phase = .idle → r.engagement = .free → r.engage n dwell v =
      if 0 < v ∧ r.layers ≠ 0 ∧ r.startTest n = true then
        (if v = 4096 then r.complete n dwell true
         else { r with phase := .lever, engagement := .following, remaining := 0, progress := v })
      else r) ∧
    (r.phase = .idle → r.engagement = .parked → r.engage n dwell v =
      if v = 0 then { r with engagement := .free }
      else if v = 4096 then { r with engagement := .free, sense := r.sense.flipped } else r) ∧
    (∀ position, leverValue r.sense position = 4096 → leverValue r.sense.flipped position = 0) ∧
    (r.phase = .lever → r.engagement = .following → r.engage n dwell v =
      if v = 4096 then r.complete n dwell true
      else if v = 0 then
        BankRecord.setLevels { r with phase := .idle, progress := 0, remaining := 0, engagement := .free }
      else { r with progress := v, remaining := 0 }) ∧
    (r.phase = .auto ∨ r.phase = .paused → r.engagement = .pickup → r.engage n dwell v =
      if v < r.progress then { r with engagement := .pickupBelow }
      else if r.progress < v then { r with engagement := .pickupAbove }
      else { r with phase := .lever, engagement := .following, remaining := 0 }) ∧
    (r.phase = .auto ∨ r.phase = .paused →
      (r.engagement = .pickupBelow ∧ r.progress ≤ v ∨ r.engagement = .pickupAbove ∧ v ≤ r.progress) →
      r.engage n dwell v =
        if v = 4096 then r.complete n dwell true
        else if v = 0 then
          BankRecord.setLevels { r with phase := .idle, progress := 0, remaining := 0, engagement := .free }
        else { r with phase := .lever, engagement := .following, remaining := 0, progress := v }) ∧
    (r.phase = .auto ∨ r.phase = .paused →
      (r.engagement = .pickupBelow ∧ v < r.progress ∨ r.engagement = .pickupAbove ∧ r.progress < v) →
      r.engage n dwell v = r) ∧
    (r.readLever none n dwell = r ∧ ∀ x : LeverReading, r.readLever (some x) n dwell =
      r.engage n dwell (if r.sense = .normal then leverMap x.position else 4096 - leverMap x.position)) ∧
    ∀ k : Bank, ∃ stepped,
      stepped = (if k.working.phase = .auto ∧ k.stepMark = false then k.working.autoStep n dwell else k.working) ∧
      k.brought n dwell = (stepped.readLever k.lever n dwell).setLevels.refresh n

/-! ### The Schedule (R69 to R84) -/

/-- R71, R72, R75: entries with one due field are inserted as one run, after every entry due at or before them; in a list
in due order within half the counter's range they stand before every entry due later, and the list stays in due order. -/
def Obligations.InsertionKeepsDueOrder : Prop :=
  ∀ (es list : List Entry) (d : FieldNo), (∀ e ∈ es, e.due = d) → es ≠ [] →
    ∃ before after, list = before ++ after ∧ insertEntries es list = before ++ es ++ after ∧
      (∀ x ∈ before, atLeast d x.due = true) ∧
      ∀ base : FieldNo, (∀ x ∈ list, (x.due - base).toNat < 2147483648) → (d - base).toNat < 2147483648 →
        list.Pairwise (fun x y => atLeast y.due x.due = true) →
        (∀ x ∈ after, atLeast d x.due = false) ∧
        (insertEntries es list).Pairwise (fun x y => atLeast y.due x.due = true)

/-- R77, R80, R82: the sweep applies a due entry that is judged go ahead within the budget: the entry leaves the list,
its changes are counted, its action is performed on its bank, and its notice, if any, is sent. That a frame queued on
an idle line begins at once is log 10. -/
def Obligations.SweepAppliesAnEntry : Prop :=
  ∀ (s : State) (w : Sweep) (e : Entry) (count : Nat) (note : Option Reason),
    s.sweep = some w → nextDue w.target s.schedule = some e → e.linked = none →
    stale w.target e.due = false → pick w.deferred e.bank = false → e.fetching = false →
    s.judge e.bank e.action w.target = .goAhead count note → w.used + count ≤ 16 →
    ∃ (u : State) (left rest : List Entry), exec .sweepEntry s = .next u.settleSweep ∧ s.schedule = left ++ e :: rest ∧
      (∀ x ∈ left, x.dealt = true) ∧ e.dealt = false ∧
      u = { s with
        schedule := left ++ rest, sweep := some { w with used := w.used + count }, links := u.links
        banks := upd s.banks e.bank fun k => k.perform e.action w.target (s.dwellFields e.bank) s.prepareFields } ∧
      (note = none → u.links = s.links) ∧
      ∀ reason, note = some reason → s.NoticeSent u e.origin reason e.bank

/-- R75, R77, R79, R162, R166: the sweep refuses a due entry that is stale, or that is judged refuse in a bank not
deferred: the entry leaves the list with its notice, and a recall's job and staged record with it; no bank record
changes. That a frame queued on an idle line begins at once is log 10. -/
def Obligations.SweepRefusesAnEntry : Prop :=
  ∀ (s : State) (w : Sweep) (e : Entry) (reason : Reason),
    s.sweep = some w → nextDue w.target s.schedule = some e → e.linked = none →
    (stale w.target e.due = true ∧ reason = .busy ∨
      stale w.target e.due = false ∧ pick w.deferred e.bank = false ∧ e.fetching = false ∧
        s.judge e.bank e.action w.target = .refuse reason) →
    ∃ (u : State) (left rest : List Entry), exec .sweepEntry s = .next u.settleSweep ∧ s.schedule = left ++ e :: rest ∧
      u = { s with schedule := left ++ rest, links := u.links, banks := u.banks, engine := u.engine } ∧
      s.NoticeSent u e.origin reason e.bank ∧
      (if e.isRecallOf e.bank then
        u.engine.jobs = (s.engine.jobs.filter fun j => !j.isRecallOf e.bank) ∧
        s.engine.KeepsAccess u.engine (fun j => j.isRecallOf e.bank = true) ∧
        u.banks = upd s.banks e.bank fun k => { k with staging := none }
      else u.engine = s.engine ∧ u.banks = s.banks)

/-- R77, R78, R81, R82: the sweep defers a due entry whose bank is already deferred, a recall still FETCHING, an
action judged hold back, and an entry that the budget does not cover: the entry stays in its place with its due field,
and with the change count of its judgement (that of a hold back is 0, that of the budget's deferral what it would
change), or the count it had where it was not judged; its bank joins the deferred banks, and WAITING is set in the
bank's working copy. -/
def Obligations.SweepDefersAnEntry : Prop :=
  ∀ (s : State) (w : Sweep) (e : Entry),
    s.sweep = some w → nextDue w.target s.schedule = some e → e.linked = none → stale w.target e.due = false →
    (pick w.deferred e.bank = true ∨ e.fetching = true ∨ s.judge e.bank e.action w.target = .holdBack ∨
      ∃ count note, s.judge e.bank e.action w.target = .goAhead count note ∧ 16 < w.used + count) →
    ∃ (u : State) (left rest : List Entry) (kept : Entry), exec .sweepEntry s = .next u.settleSweep ∧
      s.schedule = left ++ e :: rest ∧
      kept = { e with
        dealt := true
        count := if pick w.deferred e.bank = true ∨ e.fetching = true then e.count
          else match s.judge e.bank e.action w.target with
            | .goAhead count _ => some count
            | .holdBack | .refuse _ => some 0 } ∧
      u = { s with
        schedule := left ++ kept :: rest
        sweep := some { w with deferred := upd w.deferred e.bank fun _ => true }
        banks := upd s.banks e.bank fun k => { k with working := { k.working with waiting := true } } }

/-- R84: when no entry due at N is left to deal with, the sweep's own state is discarded and sweep-end N is announced to
the controller of every enabled bank and to no other; while one is left, the sweep goes on. -/
def Obligations.SweepEndReachesEveryEnabledBank : Prop :=
  ∀ (u : State) (w : Sweep), u.sweep = some w →
    (nextDue w.target u.schedule = none →
      u.settleSweep = { u with sweep := none, banks := u.settleSweep.banks } ∧
      ∀ b, u.settleSweep.bank b =
        if u.enabled b then { u.bank b with updateDue := some w.target } else u.bank b) ∧
    (∀ e, nextDue w.target u.schedule = some e → u.settleSweep = u)

/-- R77, R83: a linked set of which a member's bank is deferred, or a member is judged hold back, is deferred whole:
every member stays, with the change count 0 where it was judged and the count it had where its bank was deferred
already, every member's bank is deferred and WAITING, and nothing is performed or refused. That the members before and
behind the waiting one are judged is log 23. -/
def Obligations.LinkedSetWaitsAsAWhole : Prop :=
  ∀ (s : State) (w : Sweep) (e : Entry) (set : Nat),
    s.sweep = some w → nextDue w.target s.schedule = some e → e.linked = some set →
    (∀ m ∈ setMembers set (unswept s.schedule), stale w.target m.due = false) →
    (∃ m ∈ setMembers set (unswept s.schedule),
      pick w.deferred m.bank = true ∨ s.judge m.bank m.action w.target = .holdBack) →
    ∃ (u : State) (left rest kept : List Entry), exec .sweepLinkedSet s = .next u.settleSweep ∧
      s.schedule = left ++ setMembers set (unswept s.schedule) ++ rest ∧
      kept = (setMembers set (unswept s.schedule)).map (fun m =>
        { m with count := if pick w.deferred m.bank = true then m.count else some 0, dealt := true }) ∧
      u = { s with schedule := left ++ kept ++ rest, sweep := u.sweep, banks := u.banks } ∧
      (∃ d, u.sweep = some { w with deferred := d } ∧
        ∀ b, pick d b = true ↔ pick w.deferred b = true ∨ ∃ m ∈ setMembers set (unswept s.schedule), m.bank = b) ∧
      ∀ b, u.bank b =
        if ∃ m ∈ setMembers set (unswept s.schedule), m.bank = b then
          { s.bank b with working := { (s.bank b).working with waiting := true } }
        else s.bank b

/-- R75, R77, R79, R80, R83: a linked set of which no member waits is dealt with at one target field: each member
judged go ahead is performed on its bank, each member judged refuse leaves its bank as it is, and each notice is sent.
A set with a member past the age limit is refused whole: every member leaves the list with NOTICE BUSY, and no bank
record changes. That a frame queued on an idle line begins at once is log 10. -/
def Obligations.LinkedSetLandsTogether : Prop :=
  (∀ (s : State) (w : Sweep) (e : Entry) (set : Nat),
    s.LinkedTakes → s.sweep = some w → nextDue w.target s.schedule = some e → e.linked = some set →
    (∃ m ∈ setMembers set (unswept s.schedule), stale w.target m.due = true) →
    ∃ (u : State) (left rest : List Entry), exec .sweepLinkedSet s = .next u.settleSweep ∧
      s.schedule = left ++ setMembers set (unswept s.schedule) ++ rest ∧
      u = { s with schedule := left ++ rest, links := u.links } ∧
      ∀ l, (s.link l).QueuesAll s.now (s.noticesTo l .busy (setMembers set (unswept s.schedule))) (u.link l)) ∧
  ∀ (s : State) (w : Sweep) (e : Entry) (set : Nat),
    s.LinkedTakes → s.sweep = some w → nextDue w.target s.schedule = some e → e.linked = some set →
    ((setMembers set (unswept s.schedule)).map Entry.bank).Nodup →
    (∀ m ∈ setMembers set (unswept s.schedule), stale w.target m.due = false ∧ pick w.deferred m.bank = false ∧
      s.judge m.bank m.action w.target ≠ .holdBack) →
    ∃ (u : State) (left rest : List Entry), exec .sweepLinkedSet s = .next u.settleSweep ∧
      s.schedule = left ++ setMembers set (unswept s.schedule) ++ rest ∧
      u = { s with schedule := left ++ rest, banks := u.banks, links := u.links } ∧
      (∀ m ∈ setMembers set (unswept s.schedule),
        u.bank m.bank =
          match s.judge m.bank m.action w.target with
          | .goAhead _ _ => (s.bank m.bank).perform m.action w.target (s.dwellFields m.bank) s.prepareFields
          | _ => s.bank m.bank) ∧
      (∀ b, (∀ m ∈ setMembers set (unswept s.schedule), m.bank ≠ b) → u.bank b = s.bank b) ∧
      ∀ l, (s.link l).QueuesAll s.now ((setMembers set (unswept s.schedule)).flatMap fun m =>
        match s.judge m.bank m.action w.target with
        | .refuse reason => s.noticesTo l reason [m]
        | .goAhead _ (some reason) => s.noticesTo l reason [m]
        | _ => []) (u.link l)

/-! ### The field update and the tally (R47, R48, R140 to R147) -/

/-- R10, R11, R13, R47, R48, R121, R122, R156: the field update of a bank that has been told of sweep-end N brings the
bank to N and publishes it: the published copy is the copy brought, the flags of the working copy and the step mark
are cleared, the Parameter Port is handed the bank's record, and a BANK-STATE goes to every UP link when the copy
differs from the one before or carries a flag. The report takes the place of an unsent BANK-STATE of the bank, or is
the last frame the link has to send; every other frame stays where it is, and a DOWN link is left as it was. That a
frame queued on an idle line begins at once is log 10. -/
def Obligations.FieldUpdatePublishesTheBank : Prop :=
  ∀ (s : State) (b : BankIx) (n : FieldNo), (s.bank b).updateDue = some n →
    ∃ t r, exec (.fieldUpdate b) s = .next t ∧ r = (s.bank b).brought n (s.dwellFields b) ∧
      t = { s with banks := t.banks, links := t.links, paramPort := s.paramPort.hand s.now (paramRecord b n r)
                   table := t.table, gathering := t.gathering, tallyPort := t.tallyPort, lines := t.lines } ∧
      t.bank b = { s.bank b with
        published := r, publishedFor := n, stepMark := false, updateDue := none
        working := { r with waiting := false, aborted := false, done := false } } ∧
      (∀ c, c ≠ b → t.bank c = s.bank c) ∧
      (∀ k, (r.keyer k).level = r.levelOf k) ∧
      (∀ x ∈ r.dwellEnd :: r.readyFields, stale n x = false) ∧
      (if r ≠ s.published b ∨ r.waiting = true ∨ r.aborted = true ∨ r.done = true then
        ∀ l, (s.link l).Queues s.now (.bankState b n r) (t.link l)
      else t.links = s.links)

/-- R48, R142, R146, R147, R176, R180: FIELD_UPDATE tells the Tally Resolver of its publication. The one that makes the
gathering whole resolves the tally in the same step: the table is the resolution for N of the copies as they now stand,
its frame is handed to the Tally Port, every OUT line takes its level from it, and the gathering ends; any other joins
the gathering for its field, or begins it afresh, and leaves table, port and lines. What an OUT line drives is the mark
of its function, PGM or PVW of the source, RUNNING or DONE of the bank in the low byte of its argument, NONE and an
unmarked one low, inverted by bit 3. -/
def Obligations.LastPublicationResolvesTheTally : Prop :=
  (∀ (table : Option TallyTable) (mode arg : BitVec 16),
    (mode.toNat < 32768 → drivenLevel table mode arg = none) ∧
    (32768 ≤ mode.toNat → ∃ mark : Bool, drivenLevel table mode arg = some (if mode.getLsbD 3 then !mark else mark) ∧
      (mark = true ↔ ∃ k, table = some k ∧
        (mode.toNat % 8 = 1 ∧ (∃ c : Source, c.val = arg.toNat % 256 ∧ pick k.pgm c = true) ∨
          mode.toNat % 8 = 2 ∧ (∃ c : Source, c.val = arg.toNat % 256 ∧ pick k.pvw c = true) ∨
          mode.toNat % 8 = 3 ∧ (∃ c : BankIx, c.val + 1 = arg.toNat % 256 ∧ pick k.running c = true) ∨
          mode.toNat % 8 = 4 ∧ (∃ c : BankIx, c.val + 1 = arg.toNat % 256 ∧ pick k.done c = true))))) ∧
  ∀ (s : State) (b : BankIx) (n : FieldNo), (s.bank b).updateDue = some n →
    let joined := fun c => (c = b) ∨ ∃ g, s.gathering = some g ∧ g.field = n ∧ pick g.banks c = true
    ∃ t, exec (.fieldUpdate b) s = .next t ∧ (t.bank b).publishedFor = n ∧
      ((∀ c, s.enabled c = true → joined c) →
        t.table = some (t.resolution n) ∧ t.gathering = none ∧
        t.tallyPort = s.tallyPort.hand s.now
          { field := n, pgm := (t.resolution n).pgm, pvw := (t.resolution n).pvw } ∧
        ∀ k, t.line k = { s.line k with
          driven := drivenLevel (some (t.resolution n)) (s.gpiMode k) (s.gpiArg k) }) ∧
      ((∃ c, s.enabled c = true ∧ ¬ joined c) →
        t.table = s.table ∧ t.tallyPort = s.tallyPort ∧ t.lines = s.lines ∧
        ∃ g, t.gathering = some g ∧ g.field = n ∧ ∀ c, pick g.banks c = true ↔ joined c)

/-- R16, R140, R143, R144, R145, R147: a source is marked PGM exactly when the published state of an air bank carries it, and
PVW exactly when it is a preview contributor of an air bank or is carried by a bank that is re-entered as one; RUNNING
and DONE are marked for enabled banks from their published copies. -/
def Obligations.TallyMarksExactlyWhatAirBanksCarry : Prop :=
  ∀ (s : State) (n : FieldNo),
    (∀ b c, c ∈ (s.published b).contributors ↔
      c = (s.published b).a ∨
      (c = (s.published b).b ∧ (s.published b).phase ≠ .idle ∧ hasBkgd (s.published b).layers = true) ∨
      ∃ k, (((s.published b).keyer k).onAir = true ∨
          hasKey (s.published b).layers k = true ∧ (s.published b).phase ≠ .idle) ∧
        (c = ((s.published b).keyer k).fill ∨
          c = ((s.published b).keyer k).key ∧ ((s.published b).keyer k).kind = .linear)) ∧
    (∀ b c, c ∈ (s.published b).previewContributors ↔
      c = (if hasBkgd (s.published b).layers = true then (s.published b).b else (s.published b).a) ∨
      ∃ k, ((s.published b).keyer k).onAir ≠ hasKey (s.published b).layers k ∧
        (c = ((s.published b).keyer k).fill ∨
          c = ((s.published b).keyer k).key ∧ ((s.published b).keyer k).kind = .linear)) ∧
    (∀ c, pick (s.resolution n).pgm c = true ↔ ∃ b, s.airBank b = true ∧ s.enabled b = true ∧ Carries s b c) ∧
    (∀ c, pick (s.resolution n).pvw c = true ↔ ∃ b, s.airBank b = true ∧ s.enabled b = true ∧
      (c ∈ (s.published b).previewContributors ∨
        ∃ d, meCode d ∈ (s.published b).previewContributors ∧ Carries s d c)) ∧
    (∀ b, (pick (s.resolution n).running b = true ↔ s.enabled b = true ∧ (s.published b).phase ≠ .idle) ∧
      (pick (s.resolution n).done b = true ↔ s.enabled b = true ∧ (s.published b).done = true))

/-! ### The field reference and the output ports (R105, R146, R149 to R157) -/

/-- R40, R76, R105, R109, R153: a field start adds 1 to F, ages every claim by 1 up to 65535 and empties the touches
that have reached CLAIM_AGING, each of them reported on every UP link and nothing else sent, with the lever register
of a bank whose TRANS touch is emptied cleared and every other bank left; and it announces target field F + 1: the
sweep for it begins, or has already ended when nothing is due. The order of the reports of several banks and SYSTEM is
log 9. That a frame queued on an idle line begins at once is log 10. -/
def Obligations.FieldStartAgesAndAnnounces : Prop :=
  ∀ (s : State), ∃ t, s.fieldStart = t ∧
    t = { s with ref := { s.ref with counter := s.ref.counter + 1 }, claims := t.claims, banks := t.banks
                 links := t.links, sweep := t.sweep, schedule := s.schedule.map fun e => { e with dealt := false } } ∧
    (∀ e, t.claim e =
      match s.claim e with
      | none => none
      | some c =>
        if c.lock = false ∧ 0 < s.claimAging ∧ s.claimAging ≤ min (c.age + 1) 65535 then none
        else some { c with age := min (c.age + 1) 65535 }) ∧
    (∀ l, (s.link l).QueuesAll s.now (claimReportsFor s.claims t.claims) (t.link l)) ∧
    (∀ b, ∃ k, t.bank b = { k with updateDue := (t.bank b).updateDue } ∧
      k = if claimHolder (s.claim (transElement b)) = claimHolder (t.claim (transElement b)) then s.bank b
        else (s.bank b).clearLever) ∧
    (if ∃ e, s.schedule.head? = some e ∧ atLeast (s.ref.counter + 2) e.due = true then
      t.sweep = some { target := s.ref.counter + 2, used := 0, deferred := Vector.replicate 4 false } ∧
      ∀ b, (t.bank b).updateDue = (s.bank b).updateDue
    else t.sweep = none ∧
      ∀ b, (t.bank b).updateDue = if s.enabled b then some (s.ref.counter + 2) else (s.bank b).updateDue)

/-- R149, R150, R151, R152: a REF pulse is spurious within 8000 µs of the last field start; in LOCKED any other is a real
field start, measured when the one before was real; in FREERUN it relocks from half the period on, and is absorbed
before. The loss deadline of LOCKED and the free-run deadline of FREERUN each make a synthetic field start at the
deadline; the state becomes or stays FREERUN, and the next deadline lies one measured period on. -/
def Obligations.PulsesAndDeadlinesMakeFieldStarts : Prop :=
  (∀ (s : State), s.now ≤ s.ref.deadline →
    ∃ t, (if s.ref.locked then exec .lossDeadline s else exec .freerunDeadline s) = .next (State.fieldStart t) ∧
      t = { s with now := s.ref.deadline, ref := { s.ref with
        locked := false, lastStart := s.ref.deadline, lastReal := false
        deadline := s.ref.deadline + s.ref.period } }) ∧
  ∀ (s : State) (dt : Nat) (now elapsed : Nat), now = s.now + dt → elapsed = now - s.ref.lastStart →
    (elapsed < 8000 → exec (.refPulse dt) s =
      .next { s with now := now, ref := { s.ref with spurious := min (s.ref.spurious + 1) 65535 } }) ∧
    (8000 ≤ elapsed → s.ref.locked = true →
      ∃ period, period = (if s.ref.lastReal then max 8000 (min elapsed 40000) else s.ref.period) ∧
        exec (.refPulse dt) s = .next (State.fieldStart { s with now := now, ref := { s.ref with
          period := period, lastStart := now, lastReal := true, deadline := now + period + period / 4 } })) ∧
    (8000 ≤ elapsed → s.ref.locked = false → s.ref.period / 2 ≤ elapsed →
      exec (.refPulse dt) s = .next (State.fieldStart { s with now := now, ref := { s.ref with
        locked := true, lastStart := now, lastReal := true
        deadline := now + s.ref.period + s.ref.period / 4 } })) ∧
    (8000 ≤ elapsed → s.ref.locked = false → elapsed < s.ref.period / 2 →
      exec (.refPulse dt) s = .next { s with now := now, ref := { s.ref with deadline := now + s.ref.period } })

/-- R38, R115, R139, R146, R156, R157: what a port is handed begins at once when its line is idle, and otherwise waits
behind what was handed before. A record of 60 bytes leaves the Parameter Port 60 µs after it began, and a tally frame
of 22 bytes the Tally Port 22 µs after; the next handed begins at once, in the order they were handed. Each byte goes
out as a start bit, 8 data bits with the least significant first, and a stop bit, so that a record is 600 bits and a
frame 220. The record is 5Ah, 56, its body by offset and the CRC-16 of R115, the frame 5Ah, 18, its body and the
CRC-16: each field of the layouts of R139 stands at its offset with its bits, of a value wider than its field the low
bits (log 20), and bits that no layout lists are 0 (log 33). -/
def Obligations.OutputPortsSendInOrder : Prop :=
  let coded := fun b : Byte => [LineBit.start, .data (b.getLsbD 0), .data (b.getLsbD 1), .data (b.getLsbD 2),
    .data (b.getLsbD 3), .data (b.getLsbD 4), .data (b.getLsbD 5), .data (b.getLsbD 6), .data (b.getLsbD 7), .stop]
  (∀ r : ParamRecord, r.onLine = r.bytes.flatMap coded ∧ r.onLine.length = 600 ∧
    ∃ body, r.bytes = framed 0x5A (56 :: body) ∧ LaidOut body 56 r.layout) ∧
  (∀ f : TallyFrame, f.onLine = f.bytes.flatMap coded ∧ f.onLine.length = 220 ∧
    ∃ body, f.bytes = framed 0x5A (18 :: body) ∧ LaidOut body 18 f.layout) ∧
  [WipeMark.none, .wipedOn, .wipedOff].map WipeMark.code = [0, 1, 2] ∧
  (∀ (p : ParamPort) (now : Nat) (r : ParamRecord),
    (p.line = none → p.hand now r = { p with line := some (r, now) }) ∧
    (p.line.isSome = true → p.hand now r = { p with waiting := p.waiting ++ [r] })) ∧
  (∀ (p : TallyPort) (now : Nat) (f : TallyFrame),
    (p.line = none → p.hand now f = { p with line := some (f, now) }) ∧
    (p.line.isSome = true → p.hand now f = { p with waiting := p.waiting ++ [f] })) ∧
  ∀ (s : State),
    (∀ r began, s.paramPort.line = some (r, began) → s.now ≤ began + 60 →
      exec .parameterRecordSent s = .next { s with
        now := began + 60
        paramPort := { line := s.paramPort.waiting.head?.map fun x => (x, began + 60)
                       waiting := s.paramPort.waiting.tail } }) ∧
    (∀ f began, s.tallyPort.line = some (f, began) → s.now ≤ began + 22 →
      exec .tallyFrameSent s = .next { s with
        now := began + 22
        tallyPort := { line := s.tallyPort.waiting.head?.map fun x => (x, began + 22)
                       waiting := s.tallyPort.waiting.tail } })

/-! ### The machine as a whole -/

/-- A step runs the command at the front of the queue on the rest of the queue; with no command waiting the part idles
(assumption log 2). -/
def Obligations.StepRunsTheFrontCommand : Prop :=
  (∀ (c : Instr) (rest : List Instr) (s : State), step { s with pending := c :: rest } = exec c { s with pending := rest }) ∧
  ∀ s : State, s.pending = [] → step s = .next s

/-- Every command, in every state, answers a next state and no fault (log 29), a command whose cause does not stand too
(log 1); what that state is, the other statements say. It leaves the commands waiting behind it, POWER_ON too (log 14), and
time passes forward but at POWER_ON, which begins it again. -/
def Obligations.EveryCommandAnswersANextState : Prop :=
  ∀ (c : Instr) (s : State), ∃ t, exec c s = .next t ∧ t.pending = s.pending ∧
    ((∀ high, c ≠ .powerOn high) → s.now ≤ t.now)

/-- R15, R93, R110, R112, R125, R141, R154, R157, R161, R172, R179, R182: what POWER_ON leaves, whatever the state
before it: each bank, link, line and list, the reference with power-on as its last field start, synthetic, both ports
idle, and the 10 ms begun of each PRESENT that stands asserted. The records of banks that are not enabled, which State
holds at the same defaults, are log 18; the pin and PRESENT levels, which stand through POWER_ON, are log 14; the load's
first access, already on the port, is log 30; CFGDEFAULT, clear before the load's outcome, is log 7. The names of the
items stand for the numbers of R179. -/
def Obligations.PowerOnLeavesEveryUnitAtItsDefault : Prop :=
  ∀ (s : State) (high : Bool), ∃ t, exec (.powerOn high) s = .next t ∧
    t.strapHigh = high ∧ t.running = false ∧ t.schedule = [] ∧ t.sweep = none ∧ t.pointer = 5 ∧
    (∀ e, t.claim e = none) ∧
    (∀ b, (t.enabled b = true ↔ high = true ∨ b.val < 2) ∧ (t.bank b).lever = none ∧ (t.bank b).stepMark = false ∧
      (t.bank b).staging = none ∧ (t.bank b).updateDue = none ∧ (t.bank b).publishedFor = 1 ∧ t.working b = BankRecord.default ∧
      t.published b = BankRecord.default) ∧
    (∀ l, (t.link l).up = false ∧ (t.link l).receiver = .hunting ∧ (t.link l).takeQ = [] ∧ (t.link l).setupQ = [] ∧
      (t.link l).outgoing = [] ∧ (t.link l).holdOff = false ∧ (t.link l).takeRun = 0 ∧
      (t.link l).frameErrors = 0 ∧ (t.link l).overflow = 0 ∧ (t.link l).present = (s.link l).present ∧
      (t.link l).since = if (s.link l).present then some t.now else none) ∧
    t.ref.counter = 0 ∧ t.ref.locked = false ∧ t.ref.period = 20000 ∧ t.ref.spurious = 0 ∧
    t.ref.lastStart = t.now ∧ t.ref.lastReal = false ∧ t.ref.deadline = t.now + 20000 ∧
    t.table = none ∧ t.gathering = none ∧
    t.paramPort = { line := none, waiting := [] } ∧ t.tallyPort = { line := none, waiting := [] } ∧
    t.engine.jobs = [.load] ∧ t.engine.FirstAccess t.now t.items ∧ t.cfgDefault = false ∧
    (∀ n, (t.line n).pin = (s.line n).pin ∧ (t.line n).accepted = (s.line n).pin ∧ (t.line n).driven = none ∧
      (t.line n).timer = none ∧ (t.line n).edge = false ∧
      (t.line n).dropped = false) ∧
    t.item 1 = (if high then 8 else 2) ∧ t.prepareFields = 2 ∧ t.commandLatency = 0 ∧ t.touchHold = 50 ∧
    t.claimAging = 3000 ∧ t.takeRatio = 4 ∧ (∀ b, t.dwellFields b = 1) ∧
    (∀ e : ElemIx, t.elementGroup e = if e.val < 24 then e.val / 6 + 1 else 0) ∧
    (∀ p g, t.linkInGroup p g = decide (g < 8)) ∧
    (∀ n, t.gpiMode n = 0x0015 ∧ t.gpiArg n = 0 ∧ t.gpiLead n = 0) ∧
    (∀ u : State, (∀ b : BankIx, u.airBank b = (u.item 1).getLsbD b.val ∧ u.dwellFields b = (u.item (8 + b.val)).toNat) ∧
      u.prepareFields = (u.item 2).toNat ∧ u.commandLatency = (u.item 3).toNat ∧ u.touchHold = (u.item 4).toNat ∧
      u.claimAging = (u.item 5).toNat ∧ u.takeRatio = (u.item 6).toNat ∧
      (∀ e : ElemIx, u.elementGroup e = (u.item (16 + e.val)).toNat) ∧
      (∀ (p : LinkIx) (g : Nat), u.linkInGroup p g = (u.item (48 + p.val)).getLsbD g) ∧
      (∀ (p : LinkIx) (e : ElemIx), u.member p e = u.linkInGroup p (u.elementGroup e)) ∧
      ∀ n : LineIx, u.gpiMode n = u.item (64 + n.val) ∧ u.gpiArg n = u.item (72 + n.val) ∧
        u.gpiLead n = (u.item (80 + n.val)).toNat)

/-! ### Panel links (R112 to R122) -/

/-- R106, R109, R112: a change of PRESENT starts the 10 ms afresh, or ends the measurement when the input agrees with
the link's state again; a change to the level that already stands does nothing. 10 ms after PRESENT was asserted a
DOWN link goes UP with its locks restored, each restored lock reported on every UP link; it says nothing else. The
order of the reports of several banks and SYSTEM is log 9. That a frame queued on an idle line begins at once is log
10. -/
def Obligations.PresentBringsALinkUpWithItsLocks : Prop :=
  (∀ (s : State) (l : LinkIx) (level : Bool) (dt : Nat), ∃ t, exec (.presentChange l level dt) s = .next t ∧
    t = { s with now := s.now + dt, links := t.links } ∧ (∀ m, m ≠ l → t.link m = s.link m) ∧
    t.link l = if level = (s.link l).present then s.link l
      else { s.link l with present := level, since := if level = (s.link l).up then none else some (s.now + dt) }) ∧
  ∀ (s : State) (l : LinkIx) (m : Nat), (s.link l).up = false → (s.link l).present = true → (s.link l).since = some m →
    ∃ t, exec (.linkUp l) s = .next t ∧
      t = { s with now := max s.now (m + 10000), claims := t.claims, links := t.links } ∧
      (∀ e, t.claim e = (s.claim e).map fun c => if c.holder = l then { c with orphaned := false } else c) ∧
      (∀ k, (if k = l then { s.link l with up := true, since := none } else s.link k).QueuesAll t.now
        (claimReportsFor s.claims t.claims) (t.link k)) ∧
      ((∀ e c, s.claim e = some c → c.holder = l → c.orphaned = false) →
        t.link l = { s.link l with up := true, since := none } ∧ ∀ k, k ≠ l → t.link k = s.link k) ∧
      (∀ e c, s.claim e = some c → c.holder = l → c.orphaned = true → ∀ k, (t.link k).up = true →
        .claimState (elementBank e) ((subjectElements (elementBank e)).map fun f => (f, t.claim f)) ∈
          (t.link k).outgoing)

/-- R40, R106, R109, R113: 10 ms after PRESENT was deasserted an UP link goes DOWN: its receiver, queues, slot,
hold-off state and take-run counter are cleared and its counts kept; its touches are emptied and its locks orphaned,
each change reported on every link that is UP and nothing else said; and every bank whose register it wrote, or whose
TRANS touch it held, has its lever register cleared. The order of the reports of several banks and SYSTEM is log 9.
That a frame queued on an idle line begins at once is log 10. -/
def Obligations.LinkDownClearsQueuesLeversAndTouches : Prop :=
  ∀ (s : State) (l : LinkIx) (m : Nat), (s.link l).up = true → (s.link l).present = false → (s.link l).since = some m →
    ∃ t, exec (.linkDown l) s = .next t ∧
      t = { s with now := max s.now (m + 10000), claims := t.claims, links := t.links, banks := t.banks } ∧
      t.link l = { s.link l with
        up := false, since := none, receiver := .hunting, takeQ := [], setupQ := [], holdOff := false, slot := none
        tx := [], line := none, takeRun := 0 } ∧
      (∀ k, k ≠ l → (s.link k).QueuesAll t.now (claimReportsFor s.claims t.claims) (t.link k)) ∧
      (∀ e, t.claim e = (s.claim e).bind fun c =>
        if c.holder ≠ l then some c else if c.lock then some { c with orphaned := true } else none) ∧
      (∀ b, t.bank b =
        if (∃ x, (s.bank b).lever = some x ∧ x.writer = l) ∨
            ∃ c, s.claim (transElement b) = some c ∧ c.holder = l ∧ c.lock = false then
          { s.bank b with lever := none, working := { s.working b with
            phase := if (s.working b).phase = .lever then .paused else (s.working b).phase
            remaining := if (s.working b).phase = .lever then 0 else (s.working b).remaining
            engagement := if (s.working b).phase = .idle then .parked else .pickup } }
        else s.bank b)

/-- R114, R115, R116, R139: a frame built from a type, a tag and a body as the layout gives, its bytes arriving back
to back on an UP link whose receiver hunts, arrives whole: its request is what the type, the tag and the body say. The
body of each request type has the bytes of its layout, a value of two bytes with the most significant first; a reply
to it names that type; any other type is a malformed frame with BADTYPE, and any other length of a request's body one
with BADLENGTH. -/
def Obligations.WholeFramesArriveAsTheyWereSent : Prop :=
  (∀ b0 b1 b2 b3 b4 b5 b6 b7 b8 b9 b10 b11 : Byte,
    parseBody 0x01 [b0, b1, b2, b3] = .select b0 b1 b2 b3 ∧
    parseBody 0x02 [b0, b1] = .cut b0 b1 ∧ parseBody 0x03 [b0, b1] = .auto b0 b1 ∧
    parseBody 0x04 [b0, b1] = .hold b0 b1 ∧ parseBody 0x05 [b0, b1, b2] = .lever b0 (256 * b1.toNat + b2.toNat) ∧
    parseBody 0x06 [b0, b1, b2, b3] = .keyCut b0 b1 b2 b3 ∧
    parseBody 0x07 [b0, b1, b2, b3, b4, b5, b6, b7, b8, b9, b10, b11] =
      .keySetup b0 b1 b2 b3 b4 b5 (256 * b6.toNat + b7.toNat) (256 * b8.toNat + b9.toNat) b10 b11 ∧
    parseBody 0x08 [b0, b1, b2, b3, b4, b5, b6, b7, b8, b9, b10] =
      .transSetup b0 b1 b2 (256 * b3.toNat + b4.toNat) b5 b6 b7 b8 b9 b10 ∧
    parseBody 0x09 [b0, b1, b2] = .layers b0 b1 b2 ∧ parseBody 0x0A [b0] = .claim b0 ∧
    parseBody 0x0B [b0] = .release b0 ∧ parseBody 0x0C [b0] = .breakLock b0 ∧
    parseBody 0x0D [b0, b1, b2] = .recallEffect b0 b1 b2 ∧ parseBody 0x0E [b0, b1] = .store b0 b1 ∧
    parseBody 0x0F [b0] = .cancel b0 ∧ parseBody 0x10 [b0, b1, b2] = .config b0 (b1 ++ b2) ∧
    parseBody 0x11 [] = .saveConfig ∧ parseBody 0x12 [] = .reset ∧ parseBody 0x13 [b0, b1] = .query b0 b1) ∧
  (∀ (frameType : Byte) (body : List Byte),
    (parseBody frameType body).code = frameType ∧
    (frameType.toNat = 0 ∨ 0x13 < frameType.toNat → parseBody frameType body = .malformed frameType .badType) ∧
    (∀ n, 1 ≤ frameType.toNat →
      [4, 2, 2, 2, 3, 4, 12, 11, 3, 1, 1, 1, 3, 2, 1, 3, 0, 0, 2][frameType.toNat - 1]? = some n →
      body.length ≠ n → parseBody frameType body = .malformed frameType .badLength)) ∧
  ∀ (s : State) (l : LinkIx) (frameType tag : Byte) (body : List Byte) (dt : Nat),
    (s.link l).up = true → (s.link l).receiver = .hunting → body.length ≤ 58 →
    ∃ t, exec (.frameArrival l ((framed 0xA5 (BitVec.ofNat 8 (body.length + 2) :: frameType :: tag :: body)).map
        fun b => ⟨b, true⟩) dt) s = .next t ∧
      t = { s with now := s.now + dt + 10 * (body.length + 5), links := t.links } ∧
      (∀ m, m ≠ l → t.link m = s.link m) ∧
      t.link l = (s.link l).arrive t.now (decide (0 < s.uncommitted l)) { tag := tag, body := parseBody frameType body }

/-- R112, R114, R115: one byte on a link: a DOWN link discards it without counting it; hunting, only a start byte begins a
frame; in a frame, a missing stop bit, a LEN out of range and a wrong CRC each discard the frame and count one frame
error; the 1 ms gap does so when it expires. -/
def Obligations.BytesAreTakenOrTheFrameDiscarded : Prop :=
  ∀ (s : State) (l : LinkIx) (y : RxByte) (dt : Nat), ∃ t, exec (.byteArrival l y dt) s = .next t ∧
    t = { s with now := s.now + dt, links := t.links } ∧ (∀ m, m ≠ l → t.link m = s.link m) ∧
    ((s.link l).up = false → t.link l = s.link l) ∧
    ((s.link l).up = true → (s.link l).receiver = .hunting →
      (y.data ≠ 0xA5 → t.link l = s.link l) ∧
      (y.data = 0xA5 → y.stop = true → t.link l = { s.link l with receiver := .inFrame [0xA5] (s.now + dt) })) ∧
    (∀ got last, (s.link l).up = true → (s.link l).receiver = .inFrame got last → s.now + dt - last ≤ 1000 →
      (y.stop = false → t.link l = { s.link l with
        receiver := .hunting, frameErrors := min ((s.link l).frameErrors + 1) 65535 }) ∧
      (y.stop = true → got.length = 1 → y.data.toNat < 2 ∨ 60 < y.data.toNat → t.link l = { s.link l with
        receiver := .hunting, frameErrors := min ((s.link l).frameErrors + 1) 65535 }) ∧
      (y.stop = true → got.length = 1 → 2 ≤ y.data.toNat → y.data.toNat ≤ 60 → t.link l = { s.link l with
        receiver := .inFrame (got ++ [y.data]) (s.now + dt) }) ∧
      (∀ len, y.stop = true → 2 ≤ got.length → got[1]? = some len → 2 ≤ len.toNat → len.toNat ≤ 60 →
        (got.length + 1 < len.toNat + 4 → t.link l = { s.link l with
          receiver := .inFrame (got ++ [y.data]) (s.now + dt) }) ∧
        (got.length + 1 = len.toNat + 4 → crcGood ((got ++ [y.data]).drop 1) = false → t.link l = { s.link l with
          receiver := .hunting, frameErrors := min ((s.link l).frameErrors + 1) 65535 }))) ∧
    ∀ got last, (s.link l).receiver = .inFrame got last → s.now ≤ last + 1000 →
      exec (.interbyteTimeout l) s = .next ({ s with now := last + 1000 }.modLink l fun k => { k with
        receiver := .hunting, frameErrors := min (k.frameErrors + 1) 65535 })

/-- R117, R118, R119: a good frame's request: a LEVER replaces the one waiting for its bank number in its place; a full
queue counts an overflow and answers QUEUEFULL if a place is uncommitted; any other joins its queue at the tail, and
brings HOLD-OFF when the SETUP queue reaches 20, which waits in the slot ahead of the transmit queue or cancels what
waits there. -/
def Obligations.ArrivingRequestsJoinTheirQueue : Prop :=
  ∀ (now : Nat) (room : Bool) (r : Request) (k j : Link), j = k.arrive now room r →
    (∀ n before x after, r.body.leverBank = some n → k.takeQ = before ++ x :: after →
      x.body.leverBank = some n → (∀ y ∈ before, y.body.leverBank ≠ some n) →
      j = { k with takeQ := before ++ r :: after }) ∧
    ((r.body.leverBank = none ∨ ∀ x ∈ k.takeQ, x.body.leverBank ≠ r.body.leverBank) →
      (r.body.queue = .take → k.takeQ.length < 8 → j = { k with takeQ := k.takeQ ++ [r] }) ∧
      ((r.body.queue = .take ∧ 8 ≤ k.takeQ.length ∨ r.body.queue = .setup ∧ 24 ≤ k.setupQ.length) →
        j.SendsFrom { k with overflow := min (k.overflow + 1) 65535 } ∧
        j.outgoing = k.outgoing ++ (if room = true ∧ k.up = true then [.refuse r.tag r.body.code .queueFull none] else [])) ∧
      (r.body.queue = .setup → k.setupQ.length < 24 → (k.setupQ.length ≠ 19 ∨ k.holdOff = true) →
        j = { k with setupQ := k.setupQ ++ [r] }) ∧
      (r.body.queue = .setup → k.setupQ.length = 19 → k.holdOff = false → k.up = true →
        j.SendsFrom { k with setupQ := k.setupQ ++ [r], holdOff := true } ∧
        j.outgoing = (k.line.map Prod.fst).toList ++
          ((if k.slot.isSome then [] else [.flow .holdOff]) ++ k.tx)))

/-- R97, R115, R119, R122, R131, R132, R133, R134, R135, R139, R178: the frame on a link's line ends a byte time of 10
µs for each of its bytes after it began; the slot's frame begins next, or else the head of the transmit queue, which
frees its place; nothing is sent out of order. Its bytes are A5h, LEN, its type, its tag, its body and the CRC-16 over
LEN to the end of the body; each field of the layout of its body stands at its offset with its bits and its codes, of
a value wider than its field the low bits (log 20), with STAGED 0 for an action that is no RECALL (log 32) and bits
that no layout lists 0 (log 33). -/
def Obligations.TransmitEndBeginsTheNextFrame : Prop :=
  (∀ f : TxFrame, f.SentAs f.bytes) ∧
  (crc16 [] = 0xFFFF ∧ ∀ (bytes : List Byte) (b : Byte), crc16 (bytes ++ [b]) =
    (List.range 8).foldl (fun (r : BitVec 16) i =>
      if r.getLsbD 15 = b.getLsbD (7 - i) then r <<< 1 else r <<< 1 ^^^ 0x1021) (crc16 bytes)) ∧
  ([Kind.mix, .wipe].map Kind.code = [0, 1] ∧ [KeyerType.luma, .linear].map KeyerType.code = [0, 1] ∧
    [Direction.normal, .reverse, .flipflop].map Direction.code = [0, 1, 2] ∧
    [BorderColour.bkgd1, .bkgd2].map BorderColour.code = [0, 1] ∧
    [Phase.idle, .auto, .lever, .paused].map Phase.code = [0, 1, 2, 3] ∧
    [Engagement.free, .following, .pickup, .pickupBelow, .pickupAbove, .parked].map Engagement.code =
      [0, 1, 2, 3, 4, 5]) ∧
  [Reason.badType, .badLength, .badBank, .badSource, .badValue, .loop, .noGroup, .held, .locked, .notHolder, .notLocked,
    .listFull, .memBusy, .notFound, .queueFull, .busy, .nothing, .duplicate, .ignored, .superseded, .emptyReg,
    .badRecord, .memFault, .done].map Reason.code = List.range' 0x01 0x18 ∧
  (∀ a : Action, a.code = match a with
    | .select _ _ => 0x01
    | .cut => 0x02
    | .auto => 0x03
    | .hold => 0x04
    | .keyCut _ _ => 0x06
    | .keySetup _ _ => 0x07
    | .transSetup _ => 0x08
    | .layers _ => 0x09
    | .recallEffect _ _ => 0x0D) ∧
  ∀ (s : State) (l : LinkIx) (f : TxFrame) (began : Nat), (s.link l).line = some (f, began) → (s.link l).up = true →
    s.now ≤ began + 10 * f.bytes.length →
    ∃ t, exec (.transmitEnd l) s = .next t ∧
      t = { s with now := began + 10 * f.bytes.length, links := t.links } ∧ (∀ m, m ≠ l → t.link m = s.link m) ∧
      (t.link l).SendsFrom (s.link l) ∧ (s.link l).outgoing = f :: (t.link l).outgoing ∧
      (t.link l).line = ((t.link l).outgoing.head?.map fun g => (g, t.now)) ∧
      ((s.link l).slot.isSome = true → (t.link l).tx = (s.link l).tx ∧ (t.link l).slot = none) ∧
      ((s.link l).slot = none → (t.link l).tx = (s.link l).tx.tail)

/-! ### Claims (R97 to R109) -/

/-- R98: the judgement of an element for a request of link p, row by row, and what use of it leaves. -/
def Obligations.ElementsAreJudgedByTheTable : Prop :=
  ∀ (s : State) (p : LinkIx) (e : ElemIx),
    (s.member p e = false → s.claimRefusal p e = some (.noGroup, none)) ∧
    (s.member p e = true →
      (s.claim e = none → s.claimRefusal p e = none ∧
        usedClaim p (s.claim e) = { holder := p, lock := false, age := 0, orphaned := false }) ∧
      ∀ c, s.claim e = some c →
        (c.holder = p → s.claimRefusal p e = none ∧ usedClaim p (s.claim e) = { c with age := 0 }) ∧
        (c.holder ≠ p → c.lock = true → s.claimRefusal p e = some (.locked, some c.holder)) ∧
        (c.holder ≠ p → c.lock = false → c.age < s.touchHold → s.claimRefusal p e = some (.held, some c.holder)) ∧
        (c.holder ≠ p → c.lock = false → s.touchHold ≤ c.age → s.claimRefusal p e = none ∧
          usedClaim p (s.claim e) = { holder := p, lock := false, age := 0, orphaned := false })) ∧
    (s.touchHold = 0 → s.member p e = true → (∀ c, s.claim e = some c → c.lock = false) → s.claimRefusal p e = none)

/-- R40, R94, R99, R100, R109, R121, R122: a change of the Claim Table, by whichever command (the statements of the
commands tie it to each): every subject of which an entry changed holder, kind or orphaned flag is reported once, as
the table now stands, on every UP link, the banks in increasing number and then SYSTEM (log 9); a report takes the
place of an unsent CLAIM-STATE of its subject, or is the last frame the link has to send, and every other frame stays
where it is; a change of age alone reports nothing; each bank whose TRANS element changed holder has its lever
register cleared. That a frame queued on an idle line begins at once is log 10. -/
def Obligations.ClaimChangesAreReported : Prop :=
  ∀ (s : State) (claims : Vector (Option Claim) 25), ∃ t, s.setClaims claims = t ∧
    t = { s with claims := claims, banks := t.banks, links := t.links } ∧ s.LeversFollowClaims t ∧
    (∀ l, (s.link l).QueuesAll s.now (claimReportsFor s.claims claims) (t.link l)) ∧
    (∀ e, claimFace (pick claims e) ≠ claimFace (s.claim e) → ∀ l, (s.link l).up = true →
      .claimState (elementBank e) ((subjectElements (elementBank e)).map fun f => (f, pick claims f)) ∈
        (t.link l).outgoing) ∧
    ((∀ e, claimFace (pick claims e) = claimFace (s.claim e)) → t.links = s.links)

/-! ### The Memory Engine (R159 to R171, R183) -/

/-- R159, R161 to R166, R168, R170, R171, R183: ready within 64 µs ends the access on the port, whichever job it is of
(log 31). The active job takes what its stage calls for: its next read, its next write, or its end, at which it leaves
the queue and the next job becomes active with its first access. A ready with no access on the port is ignored, one
for an abandoned job brings nothing but the next job, and one after the 64 µs finds the access failed at its moment
and is ignored (log 31). Recalls: EMPTYREG on a valid flag other than 01h; BADRECORD on a length outside 13 to 45, an
eighth descriptor without the last flag, a sum of fragment lengths other than the record length, a wrong CRC-32 or a
failed check; each later descriptor at the chain address plus its offset; each fragment in order, from its address
upward. The load: each byte of the block in order; the finding bad for a signature other than 5Ah C3h, a count above
80 or a wrong CRC-32; and otherwise the items read, which start-up then stores as it does. That a frame queued on an
idle line begins at once is log 10. -/
def Obligations.ReadyTakesTheActiveJobOn : Prop :=
  (∀ (strapHigh : Bool) (access : Access) (data : Byte),
    (∀ got, got.length < 9 → advance strapHigh access data (.directory got) =
      .readOn (.directory (got ++ [data])) (access.address + 1)) ∧
    (∀ valid c2 c1 c0 l1 l0 k3 k2 k1 : Byte, ∀ (start : Address) (length : Nat),
      start = BitVec.ofNat 24 (65536 * c2.toNat + 256 * c1.toNat + c0.toNat) → length = 256 * l1.toNat + l0.toNat →
      advance strapHigh access data (.directory [valid, c2, c1, c0, l1, l0, k3, k2, k1]) =
        if valid ≠ 0x01 then .failed .emptyReg
        else if length < 13 ∨ 45 < length then .failed .badRecord
        else .readOn (.chain start length (k3 ++ k2 ++ k1 ++ data) [] []) start) ∧
    (∀ start length crc read got, got.length < 7 → advance strapHigh access data (.chain start length crc read got) =
      .readOn (.chain start length crc read (got ++ [data])) (access.address + 1)) ∧
    (∀ (start : Address) (length : Nat) (crc : BitVec 32) (read : List Descriptor) (a2 a1 a0 l1 l0 flags n1 : Byte),
      0 < length → ∀ all, all = read ++
        [⟨a2 ++ a1 ++ a0, 256 * l1.toNat + l0.toNat, flags.getLsbD 0, 256 * n1.toNat + data.toNat⟩] →
      (flags.getLsbD 0 = true → (all.map Descriptor.length).sum ≠ length →
        advance strapHigh access data (.chain start length crc read [a2, a1, a0, l1, l0, flags, n1]) =
          .failed .badRecord) ∧
      (flags.getLsbD 0 = true → (all.map Descriptor.length).sum = length →
        ∃ before d after, all = before ++ d :: after ∧ (∀ x ∈ before, x.length = 0) ∧ 0 < d.length ∧
          advance strapHigh access data (.chain start length crc read [a2, a1, a0, l1, l0, flags, n1]) =
            .readOn (.fragments length crc all []) d.fragment) ∧
      (flags.getLsbD 0 = false → 8 ≤ all.length →
        advance strapHigh access data (.chain start length crc read [a2, a1, a0, l1, l0, flags, n1]) =
          .failed .badRecord) ∧
      (flags.getLsbD 0 = false → all.length < 8 →
        advance strapHigh access data (.chain start length crc read [a2, a1, a0, l1, l0, flags, n1]) =
          .readOn (.chain start length crc all [])
            (start + BitVec.ofNat 24 (256 * n1.toNat + data.toNat)))) ∧
    (∀ (length : Nat) (crc : BitVec 32) (read : List Descriptor) (buffer : List Byte),
      (∀ before d after i, read = before ++ d :: after → i < d.length →
        buffer.length + 1 = (before.map Descriptor.length).sum + i →
        advance strapHigh access data (.fragments length crc read buffer) =
          .readOn (.fragments length crc read (buffer ++ [data])) (d.fragment + BitVec.ofNat 24 i)) ∧
      ((read.map Descriptor.length).sum = buffer.length + 1 →
        advance strapHigh access data (.fragments length crc read buffer) =
          match parseEffect strapHigh (buffer ++ [data]) with
          | some e => if crc32 (buffer ++ [data]) = crc then .staged e else .failed .badRecord
          | none => .failed .badRecord)) ∧
    (∀ got, got.length < 2 → advance strapHigh access data (.loading got) =
      .readOn (.loading (got ++ [data])) (BitVec.ofNat 24 (got.length + 1))) ∧
    (∀ (got rest : List Byte) (x y count : Byte), got ++ [data] = x :: y :: count :: rest →
      (x ≠ 0x5A ∨ y ≠ 0xC3 ∨ 80 < count.toNat → advance strapHigh access data (.loading got) = .loaded none) ∧
      (x = 0x5A → y = 0xC3 → count.toNat ≤ 80 →
        (rest.length < 3 * count.toNat + 4 → advance strapHigh access data (.loading got) =
          .readOn (.loading (got ++ [data])) (BitVec.ofNat 24 (got.length + 1))) ∧
        (∀ (items : List Byte) (k3 k2 k1 k0 : Byte), rest = items ++ [k3, k2, k1, k0] →
          items.length = 3 * count.toNat →
          if crc32 (x :: y :: count :: items) = k3 ++ k2 ++ k1 ++ k0 then
            ∃ entries, advance strapHigh access data (.loading got) = .loaded (some entries) ∧
              entries.length = count.toNat ∧
              ∀ i, i < count.toNat → entries[i]? =
                some ((items.getD (3 * i) 0).toNat, items.getD (3 * i + 1) 0 ++ items.getD (3 * i + 2) 0)
          else advance strapHigh access data (.loading got) = .loaded none)))) ∧
  ∀ (s : State) (data : Byte) (dt : Nat),
    (s.engine.port = none → exec (.memoryReady data dt) s = .next { s with now := s.now + dt }) ∧
    (∀ access, s.engine.port = some access → access.raised + 64 < s.now + dt →
      ∃ u, exec .memoryTimeout s = .next u ∧ exec (.memoryReady data dt) s = .next { u with now := s.now + dt }) ∧
    (∀ access, s.engine.port = some access → s.now + dt ≤ access.raised + 64 → s.engine.stage = none →
      ∃ t, exec (.memoryReady data dt) s = .next t ∧ t = { s with now := s.now + dt, engine := t.engine } ∧
        t.engine.jobs = s.engine.jobs ∧ t.engine.FirstAccess t.now t.items) ∧
    (∀ access stage, s.engine.port = some access → s.now + dt ≤ access.raised + 64 → s.engine.stage = some stage →
      (∀ next a, advance s.strapHigh access data stage = .readOn next a →
        exec (.memoryReady data dt) s = .next { s with
          now := s.now + dt
          engine := { s.engine with
            stage := some next, port := some { address := a, data := none, raised := s.now + dt } } }) ∧
      (∀ a v rest, stage = .writing ((a, v) :: rest) →
        exec (.memoryReady data dt) s = .next { s with
          now := s.now + dt
          engine := { s.engine with
            stage := some (.writing rest), port := some { address := a, data := some v, raised := s.now + dt } } }) ∧
      (∀ l tag b r snap jobs, s.engine.jobs = .store l tag b r snap :: jobs → stage = .writing [] →
        ∃ t, exec (.memoryReady data dt) s = .next t ∧
          t = { s with now := s.now + dt, engine := t.engine, links := t.links } ∧ t.engine.jobs = jobs ∧
          t.engine.FirstAccess t.now t.items ∧ s.NoticeSent t (.link l tag) .done b) ∧
      (∀ l tag jobs, s.engine.jobs = .save l tag :: jobs → stage = .writing [] →
        ∃ t, exec (.memoryReady data dt) s = .next t ∧
          t = { s with now := s.now + dt, engine := t.engine, links := t.links, cfgDefault := false } ∧
          t.engine.jobs = jobs ∧ t.engine.FirstAccess t.now t.items ∧
          (∀ m, m ≠ l → t.link m = s.link m) ∧ (s.link l).Queues t.now (.notice tag .done none) (t.link l)) ∧
      (∀ b r o jobs e, s.engine.jobs = .recallEffect b r o :: jobs →
        advance s.strapHigh access data stage = .staged e →
        ∃ t, exec (.memoryReady data dt) s = .next t ∧
          t = { s with now := s.now + dt, engine := t.engine, schedule := s.schedule.map (markStaged b)
                       banks := upd s.banks b fun k => { k with staging := some e } } ∧
          t.engine.jobs = jobs ∧ t.engine.FirstAccess t.now t.items) ∧
      (∀ b r o jobs reason, s.engine.jobs = .recallEffect b r o :: jobs →
        advance s.strapHigh access data stage = .failed reason →
        ∃ t, exec (.memoryReady data dt) s = .next t ∧
          t = { s with now := s.now + dt, engine := t.engine, links := t.links
                       schedule := s.schedule.filter fun e => !e.isRecallOf b } ∧
          t.engine.jobs = jobs ∧ t.engine.FirstAccess t.now t.items ∧ s.NoticeSent t o reason b) ∧
      (∀ jobs entries, s.engine.jobs = .load :: jobs → advance s.strapHigh access data stage = .loaded entries →
        ∃ t, exec (.memoryReady data dt) s = .next t ∧
          t = { s with now := s.now + dt, engine := t.engine, items := t.items, lines := t.lines, running := true
                       cfgDefault := entries.isNone } ∧
          t.engine.jobs = jobs ∧ t.engine.FirstAccess t.now t.items ∧
          (entries = none → t.items = s.items ∧ t.lines = s.lines) ∧
          t.items = (s.startUp entries).items ∧ t.lines = (s.startUp entries).lines))

/-- R87, R159, R162, R168, R170, R183: the 64 µs of the access on the port expire: the access fails and its job ends
with MEMFAULT, told to the origin of a recall, whose entry is removed, and to the link of a store or save; a load
leaves every default, sets CFGDEFAULT and makes the part RUNNING; an abandoned job's access ends without a result. The
next job becomes active with its first access at that moment (R161). That a frame queued on an idle line begins at
once is log 10. -/
def Obligations.TimeoutEndsTheJobWithMemfault : Prop :=
  ∀ (s : State) (access : Access), s.engine.port = some access → s.now ≤ access.raised + 64 →
    ∃ t, exec .memoryTimeout s = .next t ∧ t.now = access.raised + 64 ∧
      t.engine.FirstAccess t.now t.items ∧
      (s.engine.stage = none → t = { s with now := t.now, engine := t.engine } ∧ t.engine.jobs = s.engine.jobs) ∧
      ∀ stage, s.engine.stage = some stage →
        t.engine.jobs = s.engine.jobs.tail ∧
        (∀ b r o jobs, s.engine.jobs = .recallEffect b r o :: jobs →
          t = { s with now := t.now, engine := t.engine, links := t.links
                       schedule := s.schedule.filter fun e => !e.isRecallOf b } ∧
          s.NoticeSent t o .memFault b) ∧
        (∀ l tag b r snap jobs, s.engine.jobs = .store l tag b r snap :: jobs →
          t = { s with now := t.now, engine := t.engine, links := t.links } ∧
          s.NoticeSent t (.link l tag) .memFault b) ∧
        (∀ l tag jobs, s.engine.jobs = .save l tag :: jobs →
          t = { s with now := t.now, engine := t.engine, links := t.links } ∧
          (∀ m, m ≠ l → t.link m = s.link m) ∧ (s.link l).Queues t.now (.notice tag .memFault none) (t.link l)) ∧
        (∀ jobs, s.engine.jobs = .load :: jobs →
          t = { s with now := t.now, engine := t.engine, running := true, cfgDefault := true })

/-- R68, R165, R167, R168: the record a STORE writes reads back as the effect it was taken from: the check of a recall
accepts the snapshot of every record in range, and stages the same settings and the keyers that were ON or in the
layer set. Its writes are the valid flag first as 00h and last as 01h, and between them the record in the register's
slot, its descriptor before it (fragment address, length, last set, offset 0), and the rest of the directory entry
(chain address, length, CRC-32). That the descriptor's flags byte is 01h whole is the model's choice: R139 and R168
give its bit 0 alone, and the bits that the layout does not list are 0 by log 33. -/
def Obligations.StoredRecordReadsBackAsItsEffect : Prop :=
  (∀ (register : Nat) (record : List Byte), register ≤ 99 → 13 ≤ record.length → record.length ≤ 45 →
    ∃ middle, storeWrites register record =
        (directoryAddress register, 0x00) :: (middle ++ [(directoryAddress register, 0x01)]) ∧
      middle.length = record.length + 17 ∧
      (∀ w ∈ middle, w.1 ≠ directoryAddress register) ∧
      (∀ i, i < record.length → middle[i]? = some (slotAddress register + BitVec.ofNat 24 (8 + i), record.getD i 0)) ∧
      (∀ i v, [BitVec.extractLsb' 16 8 (slotAddress register + 8), BitVec.extractLsb' 8 8 (slotAddress register + 8),
          BitVec.extractLsb' 0 8 (slotAddress register + 8), BitVec.ofNat 8 (record.length / 256),
          BitVec.ofNat 8 record.length, 0x01, 0x00, 0x00][i]? = some v →
        middle[record.length + i]? = some (slotAddress register + BitVec.ofNat 24 i, v)) ∧
      (∀ i v, [BitVec.extractLsb' 16 8 (slotAddress register), BitVec.extractLsb' 8 8 (slotAddress register),
          BitVec.extractLsb' 0 8 (slotAddress register), BitVec.ofNat 8 (record.length / 256),
          BitVec.ofNat 8 record.length, BitVec.extractLsb' 24 8 (crc32 record), BitVec.extractLsb' 16 8 (crc32 record),
          BitVec.extractLsb' 8 8 (crc32 record), BitVec.extractLsb' 0 8 (crc32 record)][i]? = some v →
        middle[record.length + 8 + i]? = some (directoryAddress register + BitVec.ofNat 24 (1 + i), v)) ∧
      (directoryAddress register).toNat = 0x001000 + 10 * register ∧
      (slotAddress register).toNat = 0x002000 + 64 * register) ∧
  ∀ (strapHigh : Bool) (r : BankRecord), r.InRange strapHigh →
    r.snapshot.length = 13 + 8 * r.listed.length ∧
    parseEffect strapHigh r.snapshot = some r.effect ∧
    recordRead strapHigh (crc32 r.snapshot) r.snapshot = .staged r.effect

/-- R67, R170, R171, R177, R180, R183: start-up stores the items of a good block one after another, so that the later
of two values stands, each clamped to its item's range and acting on its GPI line as a CONFIG storing does; it skips a
number that is not assigned and a GPI value that R180 refuses; and after a bad block it stores none. The block a
SAVE-CONFIG writes is one that the configuration load reads as good, with every assigned item at the value it held, in
increasing item number; and start-up stores each of them, if its value is one that the table takes, whatever the table
held before. That the storing of a GPI_MODE makes the accepted level the pin's for a line that stays OUT too is log
28: R177 says so of every change of GPI_MODE, and R173 has an OUT line keep its accepted level. -/
def Obligations.SavedBlockLoadsEveryItem : Prop :=
  (∀ (s : State),
    s.startUp none = { s with cfgDefault := true, running := true } ∧
    s.startUp (some []) = { s with cfgDefault := false, running := true } ∧
    ∀ (before : List (Nat × BitVec 16)) (number : Nat) (value : BitVec 16), ∃ u t,
      u = s.startUp (some before) ∧ t = s.startUp (some (before ++ [(number, value)])) ∧
      t = { u with items := t.items, lines := t.lines } ∧
      (isItemNumber number = false ∨ (u.codeFault number (u.item (number - 8)).toNat value.toNat).isSome = true → t = u) ∧
      (isItemNumber number = true → u.codeFault number (u.item (number - 8)).toNat value.toNat = none →
        (t.item number).toNat = storedValue number value.toNat ∧ (∀ n, n ≠ number → t.item n = u.item n) ∧
        ∀ n : LineIx, t.line n =
          if number = 64 + n.val then
            { u.line n with timer := none, accepted := (u.line n).pin,
                            driven := drivenLevel u.table (t.gpiMode n) (t.gpiArg n) }
          else if number = 72 + n.val then
            { u.line n with driven := drivenLevel u.table (t.gpiMode n) (t.gpiArg n) }
          else u.line n)) ∧
  ∀ (items : Vector (BitVec 16) 88),
    (configBlock items).length = 202 ∧
    (∀ n, n < 202 → (∃ a, blockRead ((configBlock items).take n) = .readOn (.loading ((configBlock items).take n)) a ∧
      a = BitVec.ofNat 24 n)) ∧
    blockRead (configBlock items) =
      .loaded (some ((List.finRange 88).filterMap fun i => if assigned i.val then some (i.val, pick items i) else none)) ∧
    ∀ s : State,
      (∀ i : Fin 88, assigned i.val = true →
        State.itemValue { s with items := items } i.val (pick items i) = .ok (pick items i)) →
      ∃ t, t = s.startUp (some ((List.finRange 88).filterMap fun i =>
          if assigned i.val then some (i.val, pick items i) else none)) ∧
        t.running = true ∧ t.cfgDefault = false ∧ ∀ i : Fin 88, assigned i.val = true → pick t.items i = pick items i

/-! ### GPI lines (R108, R172 to R178) -/

/-- R173, R174, R180: a change of an IN line's pin starts its filter timer, lets it run on, or stops it; with filter 0,
or at the timer's expiry, the level is accepted, an active edge sets the edge flag and performs the line's action; an
OUT line runs no filter. The filter is 100 µs for each count of bits 0 to 3 of the mode, and the active edge is RISING,
FALLING or BOTH as bits 4 and 5 are 0, 1 or 2. That with filter 0 the edge and its action come within GPI_PIN_CHANGE is
log 16. -/
def Obligations.GpiPinsAreFilteredThenAccepted : Prop :=
  (∀ (mode : BitVec 16) (level : Bool), (modeOut mode = true ↔ 32768 ≤ mode.toNat) ∧
    filterTime mode = 100 * (mode.toNat % 16) ∧
    (edgeMatches mode level = true ↔ mode.toNat / 16 % 4 = 0 ∧ level = true ∨ mode.toNat / 16 % 4 = 1 ∧ level = false ∨
      mode.toNat / 16 % 4 = 2)) ∧
  ∀ (s : State) (n : LineIx) (level : Bool) (dt : Nat),
    (modeOut (s.gpiMode n) = true → exec (.gpiPinChange n level dt) s =
      .next ({ s with now := s.now + dt }.modLine n fun g => { g with pin := level })) ∧
    (modeOut (s.gpiMode n) = false → level = (s.line n).accepted → exec (.gpiPinChange n level dt) s =
      .next ({ s with now := s.now + dt }.modLine n fun g => { g with pin := level, timer := none })) ∧
    (modeOut (s.gpiMode n) = false → level ≠ (s.line n).accepted → 0 < filterTime (s.gpiMode n) →
      exec (.gpiPinChange n level dt) s = .next ({ s with now := s.now + dt }.modLine n fun g => { g with
        pin := level, timer := some (g.timer.getD (s.now + dt + filterTime (s.gpiMode n))) })) ∧
    (∀ m, (s.line n).timer = some m → s.now ≤ m →
      ∃ t, exec (.gpiFilterExpiry n) s = .next t ∧ ∃ u active,
        active = edgeMatches (s.gpiMode n) (s.line n).pin ∧
        u = ({ s with now := m }.modLine n fun g => { g with
          accepted := g.pin, timer := none, edge := g.edge || active }) ∧
        t = if active then u.gpiAction n else u) ∧
    (modeOut (s.gpiMode n) = false → level ≠ (s.line n).accepted → filterTime (s.gpiMode n) = 0 →
      ∃ t, exec (.gpiPinChange n level dt) s = .next t ∧ ∃ u active,
        active = edgeMatches (s.gpiMode n) level ∧
        u = ({ s with now := s.now + dt }.modLine n fun g => { g with
          pin := level, accepted := level, timer := none, edge := g.edge || active }) ∧
        t = if active then u.gpiAction n else u)

/-- R69, R71, R74, R85, R88, R108, R161, R162, R175, R180: the action NONE makes no entry and sets no dropped flag.
The CUT, AUTO or HOLD of a line acts on the enabled banks of its mask: with none it does nothing; with a LOCK on any
of their TRANS elements, or too little room in the list, it is dropped whole and the dropped flag set; otherwise it
makes one entry for each bank, not yet judged, with one shared linked-set mark when there are several and none for
one, and takes no claim. A RECALL that names no enabled bank or no register does nothing; one under a LOCK on any
element of its bank, or without room in the list or the job queue beside an older recall of its bank, is dropped
whole; any other supersedes the older recall, with its NOTICE, an active job of it abandoned with its access left in
flight, and inserts one FETCHING entry and its job, with the line as their origin. That a frame queued on an idle line
begins at once is log 10. -/
def Obligations.GpiActionsYieldToLocksAndRoom : Prop :=
  (∀ (s : State) (n : LineIx), ((s.gpiMode n).toNat / 256) % 8 = 0 → s.gpiAction n = s) ∧
  (∀ (s : State) (n : LineIx), modeOut (s.gpiMode n) = false → ((s.gpiMode n).toNat / 256) % 8 = 4 →
    ((∀ b : BankIx, s.enabled b = true → (s.gpiArg n).toNat / 256 ≠ b.val + 1) ∨ 99 < (s.gpiArg n).toNat % 256 →
      s.gpiAction n = s) ∧
    ∀ b : BankIx, (s.gpiArg n).toNat / 256 = b.val + 1 → s.enabled b = true → (s.gpiArg n).toNat % 256 ≤ 99 →
      (∃ e ∈ bankElements b, ∃ c, s.claim e = some c ∧ c.lock = true) →
      s.gpiAction n = s.modLine n fun g => { g with dropped := true }) ∧
  (∀ (s : State) (n : LineIx) (b : BankIx) (r : Nat), modeOut (s.gpiMode n) = false →
    ((s.gpiMode n).toNat / 256) % 8 = 4 → (s.gpiArg n).toNat = 256 * (b.val + 1) + r → s.enabled b = true → r ≤ 99 →
    (∀ e ∈ bankElements b, ∀ c, s.claim e = some c → c.lock = false) →
    (64 ≤ (s.schedule.filter fun e => !e.isRecallOf b).length ∨
        4 ≤ (s.engine.jobs.filter fun j => !j.isRecallOf b).length →
      s.gpiAction n = s.modLine n fun g => { g with dropped := true }) ∧
    (s.RecallsPaired → (s.schedule.filter fun e => !e.isRecallOf b).length < 64 →
      (s.engine.jobs.filter fun j => !j.isRecallOf b).length < 4 →
      ∃ t, s.gpiAction n = t ∧
        t = { s with schedule := t.schedule, nextSet := s.nextSet + 1, banks := t.banks, links := t.links,
                     engine := t.engine } ∧
        t.schedule = insertEntry
          { due := s.ref.counter + BitVec.ofNat 32 (2 + s.commandLatency + s.gpiLead n), origin := .line n, bank := b
            action := .recallEffect r false, linked := none, count := none, dealt := false }
          (s.schedule.filter fun e => !e.isRecallOf b) ∧
        t.engine.jobs = (s.engine.jobs.filter fun j => !j.isRecallOf b) ++ [.recallEffect b r (.line n)] ∧
        s.engine.KeepsAccess t.engine (fun j => j.isRecallOf b = true) ∧
        (s.engine = { jobs := [], stage := none, port := none } → t.engine.FirstAccess s.now s.items) ∧
        t.banks = upd s.banks b (fun k => { k with staging := none }) ∧
        ∀ l, (s.link l).QueuesAll s.now (s.noticesTo l .superseded (s.schedule.filter (Entry.isRecallOf b)))
          (t.link l))) ∧
  ∀ (s : State) (n : LineIx) (action : Action) (banks : List BankIx),
    (((s.gpiMode n).toNat / 256) % 8 = 1 ∧ action = .cut ∨ ((s.gpiMode n).toNat / 256) % 8 = 2 ∧ action = .auto ∨
      ((s.gpiMode n).toNat / 256) % 8 = 3 ∧ action = .hold) →
    banks = (indices 4).filter (fun b => (s.gpiArg n).getLsbD b.val && s.enabled b) →
    (banks = [] → s.gpiAction n = s) ∧
    (banks ≠ [] →
      ((∃ b ∈ banks, ∃ c, s.claim (transElement b) = some c ∧ c.lock = true) ∨
        64 < s.schedule.length + banks.length →
        s.gpiAction n = s.modLine n fun g => { g with dropped := true }) ∧
      ((∀ b ∈ banks, ∀ c, s.claim (transElement b) = some c → c.lock = false) →
        s.schedule.length + banks.length ≤ 64 →
        s.gpiAction n = { s with
          nextSet := s.nextSet + 1
          schedule := insertEntries
            (banks.map fun b =>
              { due := s.ref.counter + BitVec.ofNat 32 (2 + s.commandLatency + s.gpiLead n), origin := .line n, bank := b
                action := action, linked := if 2 ≤ banks.length then some s.nextSet else none, count := none
                dealt := false })
            s.schedule }))

/-! ### Invariants that every step keeps -/

/-- The state right after power-on meets every invariant below: State.reset, whose input levels are log 6, and the state
that POWER_ON leaves with the strap, the PRESENT inputs and the GPI pins at any level. -/
def Obligations.ResetMeetsEveryInvariant : Prop :=
  State.reset.Invariants ∧
  ∀ (pending : List Instr) (strapHigh : Bool) (present : Vector Bool 6) (pins : Vector Bool 8),
    (State.atPowerOn pending strapHigh present pins).Invariants

/-- R67, R72, R82, R117, R149, R152, R179, R180: the schedule list keeps to its 64 places, the receive queues to 8 and 24
with at most one LEVER for each bank number, a sweep to its 16 crosspoint changes, the measured period to 8000 to 40000 µs,
the spurious count to 16 bits, and every item of the Configuration Table to its range or its codes. -/
def Obligations.ListsQueuesBudgetAndItemsStayBounded : Prop :=
  ∀ s t : State, step s = .next t → (s.ScheduleBounded → t.ScheduleBounded) ∧ (s.QueuesBounded → t.QueuesBounded) ∧
    (s.BudgetKept → t.BudgetKept) ∧ (s.ReferenceLegal → t.ReferenceLegal) ∧ (s.ItemsLegal → t.ItemsLegal)

/-- R19, R52: in both copies of every bank, state, P, R and engagement stand together as R19 gives, a running bank has
layers to change, and a bank in LEVER has a reading. -/
def Obligations.ControllersStayLegal : Prop :=
  ∀ s t : State, s.ControllersLegal → step s = .next t → t.ControllersLegal

/-- R17, R18: bank b is in the dependency closure of bank c that the loop test and the invariant ask for exactly when
it is c, or is reached from c by the re-entry codes on the ten buses of the working copies, whatever a keyer's type,
flag or state; and the re-entry relation among the banks stays acyclic. -/
def Obligations.ReentryStaysAcyclic : Prop :=
  (∀ (s : State) (c b : BankIx), s.inClosure c b = true ↔ DependsOn s c b) ∧
  ∀ s t : State, s.ReentryAcyclic → step s = .next t → t.ReentryAcyclic

/-- R4, R94, R97: a claim is orphaned exactly while its holder's link is DOWN, only locks are orphaned, and the banks that
are not enabled, which State holds at their defaults (log 18), stay there, with no claim, entry or recall job. -/
def Obligations.ClaimsFollowLinksAndAbsentBanksStayIdle : Prop :=
  ∀ s t : State, s.AbsentBanksIdle → step s = .next t → t.AbsentBanksIdle

/-- R85, R86, R88, R120, R123, R161: recalls in flight stay paired with their jobs and staged records, at most one for a
bank; and every link's general places hold all its frames and all its promises, so that every notice finds room. -/
def Obligations.EveryNoticeFindsRoom : Prop :=
  ∀ s t : State, s.TransmitRoom → step s = .next t → t.TransmitRoom
end

