-- ==== Sys2Proof/Laws/State.lean ====
section
/-! SUPPORT. The tables of the state, and what each update of the state leaves as it was, one lemma for each field. -/

namespace Sys2Proof.Machine

/-! ### Tables -/

@[simp] theorem pick_tab {α : Type} {n : Nat} (f : Fin n → α) (i : Fin n) : pick (tab f) i = f i := by
  simp [pick, tab]

@[simp] theorem pick_upd_same {α : Type} {n : Nat} (v : Vector α n) (i : Fin n) (f : α → α) :
    pick (upd v i f) i = f (pick v i) := by
  simp [pick, upd]

theorem pick_upd_other {α : Type} {n : Nat} (v : Vector α n) {i j : Fin n} (h : j ≠ i) (f : α → α) :
    pick (upd v i f) j = pick v j := by
  have hij : i.val ≠ j.val := fun e => h (Fin.ext e.symm)
  simp [pick, upd, hij]

theorem pick_upd {α : Type} {n : Nat} (v : Vector α n) (i j : Fin n) (f : α → α) :
    pick (upd v i f) j = if j = i then f (pick v i) else pick v j := by
  by_cases h : j = i
  · subst h; simp
  · simp [h, pick_upd_other v h f]

@[simp] theorem pick_replicate {α : Type} {n : Nat} (a : α) (i : Fin n) : pick (Vector.replicate n a) i = a := by
  simp [pick]

/-- Two tables with the same entries are equal. -/
theorem table_ext {α : Type} {n : Nat} {v w : Vector α n} (h : ∀ i, pick v i = pick w i) : v = w := by
  ext i hi
  exact h ⟨i, hi⟩

@[simp] theorem tab_pick {α : Type} {n : Nat} (v : Vector α n) : (tab fun i => pick v i) = v :=
  table_ext fun i => by simp

@[simp] theorem mem_indices {n : Nat} (i : Fin n) : i ∈ indices n := List.mem_finRange i

/-! ### Entries of the state's tables after an update -/

@[simp] theorem State.link_modLink_same (s : State) (l : LinkIx) (f : Link → Link) :
    (s.modLink l f).link l = f (s.link l) := pick_upd_same ..

theorem State.link_modLink_other (s : State) {l m : LinkIx} (h : m ≠ l) (f : Link → Link) :
    (s.modLink l f).link m = s.link m := pick_upd_other _ h f

@[simp] theorem State.bank_modBank_same (s : State) (b : BankIx) (f : Bank → Bank) :
    (s.modBank b f).bank b = f (s.bank b) := pick_upd_same ..

theorem State.bank_modBank_other (s : State) {b c : BankIx} (h : c ≠ b) (f : Bank → Bank) :
    (s.modBank b f).bank c = s.bank c := pick_upd_other _ h f

@[simp] theorem State.line_modLine_same (s : State) (n : LineIx) (f : GpiLine → GpiLine) :
    (s.modLine n f).line n = f (s.line n) := pick_upd_same ..

theorem State.line_modLine_other (s : State) {n m : LineIx} (h : m ≠ n) (f : GpiLine → GpiLine) :
    (s.modLine n f).line m = s.line m := pick_upd_other _ h f

@[simp] theorem State.link_send_same (s : State) (l : LinkIx) (f : TxFrame) :
    (s.send l f).link l = (s.link l).place s.now f := pick_upd_same ..

theorem State.link_send_other (s : State) {l m : LinkIx} (h : m ≠ l) (f : TxFrame) :
    (s.send l f).link m = s.link m := pick_upd_other _ h _

@[simp] theorem State.claim_setClaims (s : State) (c : Vector (Option Claim) 25) (e : ElemIx) :
    (s.setClaims c).claim e = pick c e := rfl

theorem State.bank_setClaims (s : State) (c : Vector (Option Claim) 25) (b : BankIx) :
    (s.setClaims c).bank b =
      if claimHolder (s.claim (transElement b)) = claimHolder (pick c (transElement b)) then s.bank b
      else (s.bank b).clearLever := pick_tab ..

theorem State.link_setClaims (s : State) (c : Vector (Option Claim) 25) (l : LinkIx) :
    (s.setClaims c).link l = (claimReports s.claims c).foldl (fun k f => k.place s.now f) (s.link l) := pick_tab ..

/-! ### What `modBank` leaves -/

@[simp] theorem State.modBank_pending (s : State) (b : BankIx) (f : Bank → Bank) : (s.modBank b f).pending = s.pending := rfl
@[simp] theorem State.modBank_now (s : State) (b : BankIx) (f : Bank → Bank) : (s.modBank b f).now = s.now := rfl
@[simp] theorem State.modBank_strapHigh (s : State) (b : BankIx) (f : Bank → Bank) : (s.modBank b f).strapHigh = s.strapHigh := rfl
@[simp] theorem State.modBank_running (s : State) (b : BankIx) (f : Bank → Bank) : (s.modBank b f).running = s.running := rfl
@[simp] theorem State.modBank_cfgDefault (s : State) (b : BankIx) (f : Bank → Bank) : (s.modBank b f).cfgDefault = s.cfgDefault := rfl
@[simp] theorem State.modBank_items (s : State) (b : BankIx) (f : Bank → Bank) : (s.modBank b f).items = s.items := rfl
@[simp] theorem State.modBank_schedule (s : State) (b : BankIx) (f : Bank → Bank) : (s.modBank b f).schedule = s.schedule := rfl
@[simp] theorem State.modBank_nextSet (s : State) (b : BankIx) (f : Bank → Bank) : (s.modBank b f).nextSet = s.nextSet := rfl
@[simp] theorem State.modBank_sweep (s : State) (b : BankIx) (f : Bank → Bank) : (s.modBank b f).sweep = s.sweep := rfl
@[simp] theorem State.modBank_claims (s : State) (b : BankIx) (f : Bank → Bank) : (s.modBank b f).claims = s.claims := rfl
@[simp] theorem State.modBank_links (s : State) (b : BankIx) (f : Bank → Bank) : (s.modBank b f).links = s.links := rfl
@[simp] theorem State.modBank_pointer (s : State) (b : BankIx) (f : Bank → Bank) : (s.modBank b f).pointer = s.pointer := rfl
@[simp] theorem State.modBank_ref (s : State) (b : BankIx) (f : Bank → Bank) : (s.modBank b f).ref = s.ref := rfl
@[simp] theorem State.modBank_table (s : State) (b : BankIx) (f : Bank → Bank) : (s.modBank b f).table = s.table := rfl
@[simp] theorem State.modBank_gathering (s : State) (b : BankIx) (f : Bank → Bank) : (s.modBank b f).gathering = s.gathering := rfl
@[simp] theorem State.modBank_paramPort (s : State) (b : BankIx) (f : Bank → Bank) : (s.modBank b f).paramPort = s.paramPort := rfl
@[simp] theorem State.modBank_tallyPort (s : State) (b : BankIx) (f : Bank → Bank) : (s.modBank b f).tallyPort = s.tallyPort := rfl
@[simp] theorem State.modBank_engine (s : State) (b : BankIx) (f : Bank → Bank) : (s.modBank b f).engine = s.engine := rfl
@[simp] theorem State.modBank_lines (s : State) (b : BankIx) (f : Bank → Bank) : (s.modBank b f).lines = s.lines := rfl

/-! ### What `modLink` leaves -/

@[simp] theorem State.modLink_pending (s : State) (l : LinkIx) (f : Link → Link) : (s.modLink l f).pending = s.pending := rfl
@[simp] theorem State.modLink_now (s : State) (l : LinkIx) (f : Link → Link) : (s.modLink l f).now = s.now := rfl
@[simp] theorem State.modLink_strapHigh (s : State) (l : LinkIx) (f : Link → Link) : (s.modLink l f).strapHigh = s.strapHigh := rfl
@[simp] theorem State.modLink_running (s : State) (l : LinkIx) (f : Link → Link) : (s.modLink l f).running = s.running := rfl
@[simp] theorem State.modLink_cfgDefault (s : State) (l : LinkIx) (f : Link → Link) : (s.modLink l f).cfgDefault = s.cfgDefault := rfl
@[simp] theorem State.modLink_items (s : State) (l : LinkIx) (f : Link → Link) : (s.modLink l f).items = s.items := rfl
@[simp] theorem State.modLink_banks (s : State) (l : LinkIx) (f : Link → Link) : (s.modLink l f).banks = s.banks := rfl
@[simp] theorem State.modLink_schedule (s : State) (l : LinkIx) (f : Link → Link) : (s.modLink l f).schedule = s.schedule := rfl
@[simp] theorem State.modLink_nextSet (s : State) (l : LinkIx) (f : Link → Link) : (s.modLink l f).nextSet = s.nextSet := rfl
@[simp] theorem State.modLink_sweep (s : State) (l : LinkIx) (f : Link → Link) : (s.modLink l f).sweep = s.sweep := rfl
@[simp] theorem State.modLink_claims (s : State) (l : LinkIx) (f : Link → Link) : (s.modLink l f).claims = s.claims := rfl
@[simp] theorem State.modLink_pointer (s : State) (l : LinkIx) (f : Link → Link) : (s.modLink l f).pointer = s.pointer := rfl
@[simp] theorem State.modLink_ref (s : State) (l : LinkIx) (f : Link → Link) : (s.modLink l f).ref = s.ref := rfl
@[simp] theorem State.modLink_table (s : State) (l : LinkIx) (f : Link → Link) : (s.modLink l f).table = s.table := rfl
@[simp] theorem State.modLink_gathering (s : State) (l : LinkIx) (f : Link → Link) : (s.modLink l f).gathering = s.gathering := rfl
@[simp] theorem State.modLink_paramPort (s : State) (l : LinkIx) (f : Link → Link) : (s.modLink l f).paramPort = s.paramPort := rfl
@[simp] theorem State.modLink_tallyPort (s : State) (l : LinkIx) (f : Link → Link) : (s.modLink l f).tallyPort = s.tallyPort := rfl
@[simp] theorem State.modLink_engine (s : State) (l : LinkIx) (f : Link → Link) : (s.modLink l f).engine = s.engine := rfl
@[simp] theorem State.modLink_lines (s : State) (l : LinkIx) (f : Link → Link) : (s.modLink l f).lines = s.lines := rfl

/-! ### What `modLine` leaves -/

@[simp] theorem State.modLine_pending (s : State) (n : LineIx) (f : GpiLine → GpiLine) : (s.modLine n f).pending = s.pending := rfl
@[simp] theorem State.modLine_now (s : State) (n : LineIx) (f : GpiLine → GpiLine) : (s.modLine n f).now = s.now := rfl
@[simp] theorem State.modLine_strapHigh (s : State) (n : LineIx) (f : GpiLine → GpiLine) : (s.modLine n f).strapHigh = s.strapHigh := rfl
@[simp] theorem State.modLine_running (s : State) (n : LineIx) (f : GpiLine → GpiLine) : (s.modLine n f).running = s.running := rfl
@[simp] theorem State.modLine_cfgDefault (s : State) (n : LineIx) (f : GpiLine → GpiLine) : (s.modLine n f).cfgDefault = s.cfgDefault := rfl
@[simp] theorem State.modLine_items (s : State) (n : LineIx) (f : GpiLine → GpiLine) : (s.modLine n f).items = s.items := rfl
@[simp] theorem State.modLine_banks (s : State) (n : LineIx) (f : GpiLine → GpiLine) : (s.modLine n f).banks = s.banks := rfl
@[simp] theorem State.modLine_schedule (s : State) (n : LineIx) (f : GpiLine → GpiLine) : (s.modLine n f).schedule = s.schedule := rfl
@[simp] theorem State.modLine_nextSet (s : State) (n : LineIx) (f : GpiLine → GpiLine) : (s.modLine n f).nextSet = s.nextSet := rfl
@[simp] theorem State.modLine_sweep (s : State) (n : LineIx) (f : GpiLine → GpiLine) : (s.modLine n f).sweep = s.sweep := rfl
@[simp] theorem State.modLine_claims (s : State) (n : LineIx) (f : GpiLine → GpiLine) : (s.modLine n f).claims = s.claims := rfl
@[simp] theorem State.modLine_links (s : State) (n : LineIx) (f : GpiLine → GpiLine) : (s.modLine n f).links = s.links := rfl
@[simp] theorem State.modLine_pointer (s : State) (n : LineIx) (f : GpiLine → GpiLine) : (s.modLine n f).pointer = s.pointer := rfl
@[simp] theorem State.modLine_ref (s : State) (n : LineIx) (f : GpiLine → GpiLine) : (s.modLine n f).ref = s.ref := rfl
@[simp] theorem State.modLine_table (s : State) (n : LineIx) (f : GpiLine → GpiLine) : (s.modLine n f).table = s.table := rfl
@[simp] theorem State.modLine_gathering (s : State) (n : LineIx) (f : GpiLine → GpiLine) : (s.modLine n f).gathering = s.gathering := rfl
@[simp] theorem State.modLine_paramPort (s : State) (n : LineIx) (f : GpiLine → GpiLine) : (s.modLine n f).paramPort = s.paramPort := rfl
@[simp] theorem State.modLine_tallyPort (s : State) (n : LineIx) (f : GpiLine → GpiLine) : (s.modLine n f).tallyPort = s.tallyPort := rfl
@[simp] theorem State.modLine_engine (s : State) (n : LineIx) (f : GpiLine → GpiLine) : (s.modLine n f).engine = s.engine := rfl

/-! ### What `after` leaves -/

@[simp] theorem State.after_pending (s : State) (dt : Micros) : (s.after dt).pending = s.pending := rfl
@[simp] theorem State.after_strapHigh (s : State) (dt : Micros) : (s.after dt).strapHigh = s.strapHigh := rfl
@[simp] theorem State.after_running (s : State) (dt : Micros) : (s.after dt).running = s.running := rfl
@[simp] theorem State.after_cfgDefault (s : State) (dt : Micros) : (s.after dt).cfgDefault = s.cfgDefault := rfl
@[simp] theorem State.after_items (s : State) (dt : Micros) : (s.after dt).items = s.items := rfl
@[simp] theorem State.after_banks (s : State) (dt : Micros) : (s.after dt).banks = s.banks := rfl
@[simp] theorem State.after_schedule (s : State) (dt : Micros) : (s.after dt).schedule = s.schedule := rfl
@[simp] theorem State.after_nextSet (s : State) (dt : Micros) : (s.after dt).nextSet = s.nextSet := rfl
@[simp] theorem State.after_sweep (s : State) (dt : Micros) : (s.after dt).sweep = s.sweep := rfl
@[simp] theorem State.after_claims (s : State) (dt : Micros) : (s.after dt).claims = s.claims := rfl
@[simp] theorem State.after_links (s : State) (dt : Micros) : (s.after dt).links = s.links := rfl
@[simp] theorem State.after_pointer (s : State) (dt : Micros) : (s.after dt).pointer = s.pointer := rfl
@[simp] theorem State.after_ref (s : State) (dt : Micros) : (s.after dt).ref = s.ref := rfl
@[simp] theorem State.after_table (s : State) (dt : Micros) : (s.after dt).table = s.table := rfl
@[simp] theorem State.after_gathering (s : State) (dt : Micros) : (s.after dt).gathering = s.gathering := rfl
@[simp] theorem State.after_paramPort (s : State) (dt : Micros) : (s.after dt).paramPort = s.paramPort := rfl
@[simp] theorem State.after_tallyPort (s : State) (dt : Micros) : (s.after dt).tallyPort = s.tallyPort := rfl
@[simp] theorem State.after_engine (s : State) (dt : Micros) : (s.after dt).engine = s.engine := rfl
@[simp] theorem State.after_lines (s : State) (dt : Micros) : (s.after dt).lines = s.lines := rfl

/-! ### What `reach` leaves -/

@[simp] theorem State.reach_pending (s : State) (m : Micros) : (s.reach m).pending = s.pending := rfl
@[simp] theorem State.reach_strapHigh (s : State) (m : Micros) : (s.reach m).strapHigh = s.strapHigh := rfl
@[simp] theorem State.reach_running (s : State) (m : Micros) : (s.reach m).running = s.running := rfl
@[simp] theorem State.reach_cfgDefault (s : State) (m : Micros) : (s.reach m).cfgDefault = s.cfgDefault := rfl
@[simp] theorem State.reach_items (s : State) (m : Micros) : (s.reach m).items = s.items := rfl
@[simp] theorem State.reach_banks (s : State) (m : Micros) : (s.reach m).banks = s.banks := rfl
@[simp] theorem State.reach_schedule (s : State) (m : Micros) : (s.reach m).schedule = s.schedule := rfl
@[simp] theorem State.reach_nextSet (s : State) (m : Micros) : (s.reach m).nextSet = s.nextSet := rfl
@[simp] theorem State.reach_sweep (s : State) (m : Micros) : (s.reach m).sweep = s.sweep := rfl
@[simp] theorem State.reach_claims (s : State) (m : Micros) : (s.reach m).claims = s.claims := rfl
@[simp] theorem State.reach_links (s : State) (m : Micros) : (s.reach m).links = s.links := rfl
@[simp] theorem State.reach_pointer (s : State) (m : Micros) : (s.reach m).pointer = s.pointer := rfl
@[simp] theorem State.reach_ref (s : State) (m : Micros) : (s.reach m).ref = s.ref := rfl
@[simp] theorem State.reach_table (s : State) (m : Micros) : (s.reach m).table = s.table := rfl
@[simp] theorem State.reach_gathering (s : State) (m : Micros) : (s.reach m).gathering = s.gathering := rfl
@[simp] theorem State.reach_paramPort (s : State) (m : Micros) : (s.reach m).paramPort = s.paramPort := rfl
@[simp] theorem State.reach_tallyPort (s : State) (m : Micros) : (s.reach m).tallyPort = s.tallyPort := rfl
@[simp] theorem State.reach_engine (s : State) (m : Micros) : (s.reach m).engine = s.engine := rfl
@[simp] theorem State.reach_lines (s : State) (m : Micros) : (s.reach m).lines = s.lines := rfl

/-! ### What `send` leaves -/

@[simp] theorem State.send_pending (s : State) (l : LinkIx) (f : TxFrame) : (s.send l f).pending = s.pending := rfl
@[simp] theorem State.send_now (s : State) (l : LinkIx) (f : TxFrame) : (s.send l f).now = s.now := rfl
@[simp] theorem State.send_strapHigh (s : State) (l : LinkIx) (f : TxFrame) : (s.send l f).strapHigh = s.strapHigh := rfl
@[simp] theorem State.send_running (s : State) (l : LinkIx) (f : TxFrame) : (s.send l f).running = s.running := rfl
@[simp] theorem State.send_cfgDefault (s : State) (l : LinkIx) (f : TxFrame) : (s.send l f).cfgDefault = s.cfgDefault := rfl
@[simp] theorem State.send_items (s : State) (l : LinkIx) (f : TxFrame) : (s.send l f).items = s.items := rfl
@[simp] theorem State.send_banks (s : State) (l : LinkIx) (f : TxFrame) : (s.send l f).banks = s.banks := rfl
@[simp] theorem State.send_schedule (s : State) (l : LinkIx) (f : TxFrame) : (s.send l f).schedule = s.schedule := rfl
@[simp] theorem State.send_nextSet (s : State) (l : LinkIx) (f : TxFrame) : (s.send l f).nextSet = s.nextSet := rfl
@[simp] theorem State.send_sweep (s : State) (l : LinkIx) (f : TxFrame) : (s.send l f).sweep = s.sweep := rfl
@[simp] theorem State.send_claims (s : State) (l : LinkIx) (f : TxFrame) : (s.send l f).claims = s.claims := rfl
@[simp] theorem State.send_pointer (s : State) (l : LinkIx) (f : TxFrame) : (s.send l f).pointer = s.pointer := rfl
@[simp] theorem State.send_ref (s : State) (l : LinkIx) (f : TxFrame) : (s.send l f).ref = s.ref := rfl
@[simp] theorem State.send_table (s : State) (l : LinkIx) (f : TxFrame) : (s.send l f).table = s.table := rfl
@[simp] theorem State.send_gathering (s : State) (l : LinkIx) (f : TxFrame) : (s.send l f).gathering = s.gathering := rfl
@[simp] theorem State.send_paramPort (s : State) (l : LinkIx) (f : TxFrame) : (s.send l f).paramPort = s.paramPort := rfl
@[simp] theorem State.send_tallyPort (s : State) (l : LinkIx) (f : TxFrame) : (s.send l f).tallyPort = s.tallyPort := rfl
@[simp] theorem State.send_engine (s : State) (l : LinkIx) (f : TxFrame) : (s.send l f).engine = s.engine := rfl
@[simp] theorem State.send_lines (s : State) (l : LinkIx) (f : TxFrame) : (s.send l f).lines = s.lines := rfl

/-! ### What `sendAll` leaves -/

@[simp] theorem State.sendAll_pending (s : State) (f : TxFrame) : (s.sendAll f).pending = s.pending := rfl
@[simp] theorem State.sendAll_now (s : State) (f : TxFrame) : (s.sendAll f).now = s.now := rfl
@[simp] theorem State.sendAll_strapHigh (s : State) (f : TxFrame) : (s.sendAll f).strapHigh = s.strapHigh := rfl
@[simp] theorem State.sendAll_running (s : State) (f : TxFrame) : (s.sendAll f).running = s.running := rfl
@[simp] theorem State.sendAll_cfgDefault (s : State) (f : TxFrame) : (s.sendAll f).cfgDefault = s.cfgDefault := rfl
@[simp] theorem State.sendAll_items (s : State) (f : TxFrame) : (s.sendAll f).items = s.items := rfl
@[simp] theorem State.sendAll_banks (s : State) (f : TxFrame) : (s.sendAll f).banks = s.banks := rfl
@[simp] theorem State.sendAll_schedule (s : State) (f : TxFrame) : (s.sendAll f).schedule = s.schedule := rfl
@[simp] theorem State.sendAll_nextSet (s : State) (f : TxFrame) : (s.sendAll f).nextSet = s.nextSet := rfl
@[simp] theorem State.sendAll_sweep (s : State) (f : TxFrame) : (s.sendAll f).sweep = s.sweep := rfl
@[simp] theorem State.sendAll_claims (s : State) (f : TxFrame) : (s.sendAll f).claims = s.claims := rfl
@[simp] theorem State.sendAll_pointer (s : State) (f : TxFrame) : (s.sendAll f).pointer = s.pointer := rfl
@[simp] theorem State.sendAll_ref (s : State) (f : TxFrame) : (s.sendAll f).ref = s.ref := rfl
@[simp] theorem State.sendAll_table (s : State) (f : TxFrame) : (s.sendAll f).table = s.table := rfl
@[simp] theorem State.sendAll_gathering (s : State) (f : TxFrame) : (s.sendAll f).gathering = s.gathering := rfl
@[simp] theorem State.sendAll_paramPort (s : State) (f : TxFrame) : (s.sendAll f).paramPort = s.paramPort := rfl
@[simp] theorem State.sendAll_tallyPort (s : State) (f : TxFrame) : (s.sendAll f).tallyPort = s.tallyPort := rfl
@[simp] theorem State.sendAll_engine (s : State) (f : TxFrame) : (s.sendAll f).engine = s.engine := rfl
@[simp] theorem State.sendAll_lines (s : State) (f : TxFrame) : (s.sendAll f).lines = s.lines := rfl

/-! ### What `notify` leaves -/

@[simp] theorem State.notify_pending (s : State) (o : Origin) (r : Reason) (b : Option BankIx) : (s.notify o r b).pending = s.pending := rfl
@[simp] theorem State.notify_now (s : State) (o : Origin) (r : Reason) (b : Option BankIx) : (s.notify o r b).now = s.now := rfl
@[simp] theorem State.notify_strapHigh (s : State) (o : Origin) (r : Reason) (b : Option BankIx) : (s.notify o r b).strapHigh = s.strapHigh := rfl
@[simp] theorem State.notify_running (s : State) (o : Origin) (r : Reason) (b : Option BankIx) : (s.notify o r b).running = s.running := rfl
@[simp] theorem State.notify_cfgDefault (s : State) (o : Origin) (r : Reason) (b : Option BankIx) : (s.notify o r b).cfgDefault = s.cfgDefault := rfl
@[simp] theorem State.notify_items (s : State) (o : Origin) (r : Reason) (b : Option BankIx) : (s.notify o r b).items = s.items := rfl
@[simp] theorem State.notify_banks (s : State) (o : Origin) (r : Reason) (b : Option BankIx) : (s.notify o r b).banks = s.banks := rfl
@[simp] theorem State.notify_schedule (s : State) (o : Origin) (r : Reason) (b : Option BankIx) : (s.notify o r b).schedule = s.schedule := rfl
@[simp] theorem State.notify_nextSet (s : State) (o : Origin) (r : Reason) (b : Option BankIx) : (s.notify o r b).nextSet = s.nextSet := rfl
@[simp] theorem State.notify_sweep (s : State) (o : Origin) (r : Reason) (b : Option BankIx) : (s.notify o r b).sweep = s.sweep := rfl
@[simp] theorem State.notify_claims (s : State) (o : Origin) (r : Reason) (b : Option BankIx) : (s.notify o r b).claims = s.claims := rfl
@[simp] theorem State.notify_pointer (s : State) (o : Origin) (r : Reason) (b : Option BankIx) : (s.notify o r b).pointer = s.pointer := rfl
@[simp] theorem State.notify_ref (s : State) (o : Origin) (r : Reason) (b : Option BankIx) : (s.notify o r b).ref = s.ref := rfl
@[simp] theorem State.notify_table (s : State) (o : Origin) (r : Reason) (b : Option BankIx) : (s.notify o r b).table = s.table := rfl
@[simp] theorem State.notify_gathering (s : State) (o : Origin) (r : Reason) (b : Option BankIx) : (s.notify o r b).gathering = s.gathering := rfl
@[simp] theorem State.notify_paramPort (s : State) (o : Origin) (r : Reason) (b : Option BankIx) : (s.notify o r b).paramPort = s.paramPort := rfl
@[simp] theorem State.notify_tallyPort (s : State) (o : Origin) (r : Reason) (b : Option BankIx) : (s.notify o r b).tallyPort = s.tallyPort := rfl
@[simp] theorem State.notify_engine (s : State) (o : Origin) (r : Reason) (b : Option BankIx) : (s.notify o r b).engine = s.engine := rfl
@[simp] theorem State.notify_lines (s : State) (o : Origin) (r : Reason) (b : Option BankIx) : (s.notify o r b).lines = s.lines := rfl

/-! ### What `clearLeversOf` leaves -/

@[simp] theorem State.clearLeversOf_pending (s : State) (l : LinkIx) : (s.clearLeversOf l).pending = s.pending := rfl
@[simp] theorem State.clearLeversOf_now (s : State) (l : LinkIx) : (s.clearLeversOf l).now = s.now := rfl
@[simp] theorem State.clearLeversOf_strapHigh (s : State) (l : LinkIx) : (s.clearLeversOf l).strapHigh = s.strapHigh := rfl
@[simp] theorem State.clearLeversOf_running (s : State) (l : LinkIx) : (s.clearLeversOf l).running = s.running := rfl
@[simp] theorem State.clearLeversOf_cfgDefault (s : State) (l : LinkIx) : (s.clearLeversOf l).cfgDefault = s.cfgDefault := rfl
@[simp] theorem State.clearLeversOf_items (s : State) (l : LinkIx) : (s.clearLeversOf l).items = s.items := rfl
@[simp] theorem State.clearLeversOf_schedule (s : State) (l : LinkIx) : (s.clearLeversOf l).schedule = s.schedule := rfl
@[simp] theorem State.clearLeversOf_nextSet (s : State) (l : LinkIx) : (s.clearLeversOf l).nextSet = s.nextSet := rfl
@[simp] theorem State.clearLeversOf_sweep (s : State) (l : LinkIx) : (s.clearLeversOf l).sweep = s.sweep := rfl
@[simp] theorem State.clearLeversOf_claims (s : State) (l : LinkIx) : (s.clearLeversOf l).claims = s.claims := rfl
@[simp] theorem State.clearLeversOf_links (s : State) (l : LinkIx) : (s.clearLeversOf l).links = s.links := rfl
@[simp] theorem State.clearLeversOf_pointer (s : State) (l : LinkIx) : (s.clearLeversOf l).pointer = s.pointer := rfl
@[simp] theorem State.clearLeversOf_ref (s : State) (l : LinkIx) : (s.clearLeversOf l).ref = s.ref := rfl
@[simp] theorem State.clearLeversOf_table (s : State) (l : LinkIx) : (s.clearLeversOf l).table = s.table := rfl
@[simp] theorem State.clearLeversOf_gathering (s : State) (l : LinkIx) : (s.clearLeversOf l).gathering = s.gathering := rfl
@[simp] theorem State.clearLeversOf_paramPort (s : State) (l : LinkIx) : (s.clearLeversOf l).paramPort = s.paramPort := rfl
@[simp] theorem State.clearLeversOf_tallyPort (s : State) (l : LinkIx) : (s.clearLeversOf l).tallyPort = s.tallyPort := rfl
@[simp] theorem State.clearLeversOf_engine (s : State) (l : LinkIx) : (s.clearLeversOf l).engine = s.engine := rfl
@[simp] theorem State.clearLeversOf_lines (s : State) (l : LinkIx) : (s.clearLeversOf l).lines = s.lines := rfl

/-! ### What `setClaims` leaves -/

@[simp] theorem State.setClaims_pending (s : State) (c : Vector (Option Claim) 25) : (s.setClaims c).pending = s.pending := rfl
@[simp] theorem State.setClaims_now (s : State) (c : Vector (Option Claim) 25) : (s.setClaims c).now = s.now := rfl
@[simp] theorem State.setClaims_strapHigh (s : State) (c : Vector (Option Claim) 25) : (s.setClaims c).strapHigh = s.strapHigh := rfl
@[simp] theorem State.setClaims_running (s : State) (c : Vector (Option Claim) 25) : (s.setClaims c).running = s.running := rfl
@[simp] theorem State.setClaims_cfgDefault (s : State) (c : Vector (Option Claim) 25) : (s.setClaims c).cfgDefault = s.cfgDefault := rfl
@[simp] theorem State.setClaims_items (s : State) (c : Vector (Option Claim) 25) : (s.setClaims c).items = s.items := rfl
@[simp] theorem State.setClaims_schedule (s : State) (c : Vector (Option Claim) 25) : (s.setClaims c).schedule = s.schedule := rfl
@[simp] theorem State.setClaims_nextSet (s : State) (c : Vector (Option Claim) 25) : (s.setClaims c).nextSet = s.nextSet := rfl
@[simp] theorem State.setClaims_sweep (s : State) (c : Vector (Option Claim) 25) : (s.setClaims c).sweep = s.sweep := rfl
@[simp] theorem State.setClaims_pointer (s : State) (c : Vector (Option Claim) 25) : (s.setClaims c).pointer = s.pointer := rfl
@[simp] theorem State.setClaims_ref (s : State) (c : Vector (Option Claim) 25) : (s.setClaims c).ref = s.ref := rfl
@[simp] theorem State.setClaims_table (s : State) (c : Vector (Option Claim) 25) : (s.setClaims c).table = s.table := rfl
@[simp] theorem State.setClaims_gathering (s : State) (c : Vector (Option Claim) 25) : (s.setClaims c).gathering = s.gathering := rfl
@[simp] theorem State.setClaims_paramPort (s : State) (c : Vector (Option Claim) 25) : (s.setClaims c).paramPort = s.paramPort := rfl
@[simp] theorem State.setClaims_tallyPort (s : State) (c : Vector (Option Claim) 25) : (s.setClaims c).tallyPort = s.tallyPort := rfl
@[simp] theorem State.setClaims_engine (s : State) (c : Vector (Option Claim) 25) : (s.setClaims c).engine = s.engine := rfl
@[simp] theorem State.setClaims_lines (s : State) (c : Vector (Option Claim) 25) : (s.setClaims c).lines = s.lines := rfl

/-! ### What `takeRequest` leaves -/

@[simp] theorem State.takeRequest_pending (s : State) (o : Offer) : (s.takeRequest o).pending = s.pending := rfl
@[simp] theorem State.takeRequest_now (s : State) (o : Offer) : (s.takeRequest o).now = s.now := rfl
@[simp] theorem State.takeRequest_strapHigh (s : State) (o : Offer) : (s.takeRequest o).strapHigh = s.strapHigh := rfl
@[simp] theorem State.takeRequest_running (s : State) (o : Offer) : (s.takeRequest o).running = s.running := rfl
@[simp] theorem State.takeRequest_cfgDefault (s : State) (o : Offer) : (s.takeRequest o).cfgDefault = s.cfgDefault := rfl
@[simp] theorem State.takeRequest_items (s : State) (o : Offer) : (s.takeRequest o).items = s.items := rfl
@[simp] theorem State.takeRequest_banks (s : State) (o : Offer) : (s.takeRequest o).banks = s.banks := rfl
@[simp] theorem State.takeRequest_schedule (s : State) (o : Offer) : (s.takeRequest o).schedule = s.schedule := rfl
@[simp] theorem State.takeRequest_nextSet (s : State) (o : Offer) : (s.takeRequest o).nextSet = s.nextSet := rfl
@[simp] theorem State.takeRequest_sweep (s : State) (o : Offer) : (s.takeRequest o).sweep = s.sweep := rfl
@[simp] theorem State.takeRequest_claims (s : State) (o : Offer) : (s.takeRequest o).claims = s.claims := rfl
@[simp] theorem State.takeRequest_ref (s : State) (o : Offer) : (s.takeRequest o).ref = s.ref := rfl
@[simp] theorem State.takeRequest_table (s : State) (o : Offer) : (s.takeRequest o).table = s.table := rfl
@[simp] theorem State.takeRequest_gathering (s : State) (o : Offer) : (s.takeRequest o).gathering = s.gathering := rfl
@[simp] theorem State.takeRequest_paramPort (s : State) (o : Offer) : (s.takeRequest o).paramPort = s.paramPort := rfl
@[simp] theorem State.takeRequest_tallyPort (s : State) (o : Offer) : (s.takeRequest o).tallyPort = s.tallyPort := rfl
@[simp] theorem State.takeRequest_engine (s : State) (o : Offer) : (s.takeRequest o).engine = s.engine := rfl
@[simp] theorem State.takeRequest_lines (s : State) (o : Offer) : (s.takeRequest o).lines = s.lines := rfl

/-! ### What `insertAction` leaves -/

@[simp] theorem State.insertAction_pending (s : State) (d : FieldNo) (o : Origin) (bs : List BankIx) (a : Action) : (s.insertAction d o bs a).pending = s.pending := rfl
@[simp] theorem State.insertAction_now (s : State) (d : FieldNo) (o : Origin) (bs : List BankIx) (a : Action) : (s.insertAction d o bs a).now = s.now := rfl
@[simp] theorem State.insertAction_strapHigh (s : State) (d : FieldNo) (o : Origin) (bs : List BankIx) (a : Action) : (s.insertAction d o bs a).strapHigh = s.strapHigh := rfl
@[simp] theorem State.insertAction_running (s : State) (d : FieldNo) (o : Origin) (bs : List BankIx) (a : Action) : (s.insertAction d o bs a).running = s.running := rfl
@[simp] theorem State.insertAction_cfgDefault (s : State) (d : FieldNo) (o : Origin) (bs : List BankIx) (a : Action) : (s.insertAction d o bs a).cfgDefault = s.cfgDefault := rfl
@[simp] theorem State.insertAction_items (s : State) (d : FieldNo) (o : Origin) (bs : List BankIx) (a : Action) : (s.insertAction d o bs a).items = s.items := rfl
@[simp] theorem State.insertAction_banks (s : State) (d : FieldNo) (o : Origin) (bs : List BankIx) (a : Action) : (s.insertAction d o bs a).banks = s.banks := rfl
@[simp] theorem State.insertAction_sweep (s : State) (d : FieldNo) (o : Origin) (bs : List BankIx) (a : Action) : (s.insertAction d o bs a).sweep = s.sweep := rfl
@[simp] theorem State.insertAction_claims (s : State) (d : FieldNo) (o : Origin) (bs : List BankIx) (a : Action) : (s.insertAction d o bs a).claims = s.claims := rfl
@[simp] theorem State.insertAction_links (s : State) (d : FieldNo) (o : Origin) (bs : List BankIx) (a : Action) : (s.insertAction d o bs a).links = s.links := rfl
@[simp] theorem State.insertAction_pointer (s : State) (d : FieldNo) (o : Origin) (bs : List BankIx) (a : Action) : (s.insertAction d o bs a).pointer = s.pointer := rfl
@[simp] theorem State.insertAction_ref (s : State) (d : FieldNo) (o : Origin) (bs : List BankIx) (a : Action) : (s.insertAction d o bs a).ref = s.ref := rfl
@[simp] theorem State.insertAction_table (s : State) (d : FieldNo) (o : Origin) (bs : List BankIx) (a : Action) : (s.insertAction d o bs a).table = s.table := rfl
@[simp] theorem State.insertAction_gathering (s : State) (d : FieldNo) (o : Origin) (bs : List BankIx) (a : Action) : (s.insertAction d o bs a).gathering = s.gathering := rfl
@[simp] theorem State.insertAction_paramPort (s : State) (d : FieldNo) (o : Origin) (bs : List BankIx) (a : Action) : (s.insertAction d o bs a).paramPort = s.paramPort := rfl
@[simp] theorem State.insertAction_tallyPort (s : State) (d : FieldNo) (o : Origin) (bs : List BankIx) (a : Action) : (s.insertAction d o bs a).tallyPort = s.tallyPort := rfl
@[simp] theorem State.insertAction_engine (s : State) (d : FieldNo) (o : Origin) (bs : List BankIx) (a : Action) : (s.insertAction d o bs a).engine = s.engine := rfl
@[simp] theorem State.insertAction_lines (s : State) (d : FieldNo) (o : Origin) (bs : List BankIx) (a : Action) : (s.insertAction d o bs a).lines = s.lines := rfl

/-! ### What `dropRecall` leaves -/

@[simp] theorem State.dropRecall_pending (s : State) (b : BankIx) : (s.dropRecall b).pending = s.pending := rfl
@[simp] theorem State.dropRecall_now (s : State) (b : BankIx) : (s.dropRecall b).now = s.now := rfl
@[simp] theorem State.dropRecall_strapHigh (s : State) (b : BankIx) : (s.dropRecall b).strapHigh = s.strapHigh := rfl
@[simp] theorem State.dropRecall_running (s : State) (b : BankIx) : (s.dropRecall b).running = s.running := rfl
@[simp] theorem State.dropRecall_cfgDefault (s : State) (b : BankIx) : (s.dropRecall b).cfgDefault = s.cfgDefault := rfl
@[simp] theorem State.dropRecall_items (s : State) (b : BankIx) : (s.dropRecall b).items = s.items := rfl
@[simp] theorem State.dropRecall_nextSet (s : State) (b : BankIx) : (s.dropRecall b).nextSet = s.nextSet := rfl
@[simp] theorem State.dropRecall_sweep (s : State) (b : BankIx) : (s.dropRecall b).sweep = s.sweep := rfl
@[simp] theorem State.dropRecall_claims (s : State) (b : BankIx) : (s.dropRecall b).claims = s.claims := rfl
@[simp] theorem State.dropRecall_links (s : State) (b : BankIx) : (s.dropRecall b).links = s.links := rfl
@[simp] theorem State.dropRecall_pointer (s : State) (b : BankIx) : (s.dropRecall b).pointer = s.pointer := rfl
@[simp] theorem State.dropRecall_ref (s : State) (b : BankIx) : (s.dropRecall b).ref = s.ref := rfl
@[simp] theorem State.dropRecall_table (s : State) (b : BankIx) : (s.dropRecall b).table = s.table := rfl
@[simp] theorem State.dropRecall_gathering (s : State) (b : BankIx) : (s.dropRecall b).gathering = s.gathering := rfl
@[simp] theorem State.dropRecall_paramPort (s : State) (b : BankIx) : (s.dropRecall b).paramPort = s.paramPort := rfl
@[simp] theorem State.dropRecall_tallyPort (s : State) (b : BankIx) : (s.dropRecall b).tallyPort = s.tallyPort := rfl
@[simp] theorem State.dropRecall_lines (s : State) (b : BankIx) : (s.dropRecall b).lines = s.lines := rfl

/-! ### What `endSweep` leaves -/

@[simp] theorem State.endSweep_pending (s : State) (n : FieldNo) : (s.endSweep n).pending = s.pending := rfl
@[simp] theorem State.endSweep_now (s : State) (n : FieldNo) : (s.endSweep n).now = s.now := rfl
@[simp] theorem State.endSweep_strapHigh (s : State) (n : FieldNo) : (s.endSweep n).strapHigh = s.strapHigh := rfl
@[simp] theorem State.endSweep_running (s : State) (n : FieldNo) : (s.endSweep n).running = s.running := rfl
@[simp] theorem State.endSweep_cfgDefault (s : State) (n : FieldNo) : (s.endSweep n).cfgDefault = s.cfgDefault := rfl
@[simp] theorem State.endSweep_items (s : State) (n : FieldNo) : (s.endSweep n).items = s.items := rfl
@[simp] theorem State.endSweep_schedule (s : State) (n : FieldNo) : (s.endSweep n).schedule = s.schedule := rfl
@[simp] theorem State.endSweep_nextSet (s : State) (n : FieldNo) : (s.endSweep n).nextSet = s.nextSet := rfl
@[simp] theorem State.endSweep_claims (s : State) (n : FieldNo) : (s.endSweep n).claims = s.claims := rfl
@[simp] theorem State.endSweep_links (s : State) (n : FieldNo) : (s.endSweep n).links = s.links := rfl
@[simp] theorem State.endSweep_pointer (s : State) (n : FieldNo) : (s.endSweep n).pointer = s.pointer := rfl
@[simp] theorem State.endSweep_ref (s : State) (n : FieldNo) : (s.endSweep n).ref = s.ref := rfl
@[simp] theorem State.endSweep_table (s : State) (n : FieldNo) : (s.endSweep n).table = s.table := rfl
@[simp] theorem State.endSweep_gathering (s : State) (n : FieldNo) : (s.endSweep n).gathering = s.gathering := rfl
@[simp] theorem State.endSweep_paramPort (s : State) (n : FieldNo) : (s.endSweep n).paramPort = s.paramPort := rfl
@[simp] theorem State.endSweep_tallyPort (s : State) (n : FieldNo) : (s.endSweep n).tallyPort = s.tallyPort := rfl
@[simp] theorem State.endSweep_engine (s : State) (n : FieldNo) : (s.endSweep n).engine = s.engine := rfl
@[simp] theorem State.endSweep_lines (s : State) (n : FieldNo) : (s.endSweep n).lines = s.lines := rfl

/-! ### What `perform` leaves -/

@[simp] theorem State.perform_pending (s : State) (b : BankIx) (a : Action) (n : FieldNo) : (s.perform b a n).pending = s.pending := rfl
@[simp] theorem State.perform_now (s : State) (b : BankIx) (a : Action) (n : FieldNo) : (s.perform b a n).now = s.now := rfl
@[simp] theorem State.perform_strapHigh (s : State) (b : BankIx) (a : Action) (n : FieldNo) : (s.perform b a n).strapHigh = s.strapHigh := rfl
@[simp] theorem State.perform_running (s : State) (b : BankIx) (a : Action) (n : FieldNo) : (s.perform b a n).running = s.running := rfl
@[simp] theorem State.perform_cfgDefault (s : State) (b : BankIx) (a : Action) (n : FieldNo) : (s.perform b a n).cfgDefault = s.cfgDefault := rfl
@[simp] theorem State.perform_items (s : State) (b : BankIx) (a : Action) (n : FieldNo) : (s.perform b a n).items = s.items := rfl
@[simp] theorem State.perform_schedule (s : State) (b : BankIx) (a : Action) (n : FieldNo) : (s.perform b a n).schedule = s.schedule := rfl
@[simp] theorem State.perform_nextSet (s : State) (b : BankIx) (a : Action) (n : FieldNo) : (s.perform b a n).nextSet = s.nextSet := rfl
@[simp] theorem State.perform_sweep (s : State) (b : BankIx) (a : Action) (n : FieldNo) : (s.perform b a n).sweep = s.sweep := rfl
@[simp] theorem State.perform_claims (s : State) (b : BankIx) (a : Action) (n : FieldNo) : (s.perform b a n).claims = s.claims := rfl
@[simp] theorem State.perform_links (s : State) (b : BankIx) (a : Action) (n : FieldNo) : (s.perform b a n).links = s.links := rfl
@[simp] theorem State.perform_pointer (s : State) (b : BankIx) (a : Action) (n : FieldNo) : (s.perform b a n).pointer = s.pointer := rfl
@[simp] theorem State.perform_ref (s : State) (b : BankIx) (a : Action) (n : FieldNo) : (s.perform b a n).ref = s.ref := rfl
@[simp] theorem State.perform_table (s : State) (b : BankIx) (a : Action) (n : FieldNo) : (s.perform b a n).table = s.table := rfl
@[simp] theorem State.perform_gathering (s : State) (b : BankIx) (a : Action) (n : FieldNo) : (s.perform b a n).gathering = s.gathering := rfl
@[simp] theorem State.perform_paramPort (s : State) (b : BankIx) (a : Action) (n : FieldNo) : (s.perform b a n).paramPort = s.paramPort := rfl
@[simp] theorem State.perform_tallyPort (s : State) (b : BankIx) (a : Action) (n : FieldNo) : (s.perform b a n).tallyPort = s.tallyPort := rfl
@[simp] theorem State.perform_engine (s : State) (b : BankIx) (a : Action) (n : FieldNo) : (s.perform b a n).engine = s.engine := rfl
@[simp] theorem State.perform_lines (s : State) (b : BankIx) (a : Action) (n : FieldNo) : (s.perform b a n).lines = s.lines := rfl

/-! ### What `setOutputs` leaves -/

@[simp] theorem State.setOutputs_pending (s : State) : (s.setOutputs).pending = s.pending := rfl
@[simp] theorem State.setOutputs_now (s : State) : (s.setOutputs).now = s.now := rfl
@[simp] theorem State.setOutputs_strapHigh (s : State) : (s.setOutputs).strapHigh = s.strapHigh := rfl
@[simp] theorem State.setOutputs_running (s : State) : (s.setOutputs).running = s.running := rfl
@[simp] theorem State.setOutputs_cfgDefault (s : State) : (s.setOutputs).cfgDefault = s.cfgDefault := rfl
@[simp] theorem State.setOutputs_items (s : State) : (s.setOutputs).items = s.items := rfl
@[simp] theorem State.setOutputs_banks (s : State) : (s.setOutputs).banks = s.banks := rfl
@[simp] theorem State.setOutputs_schedule (s : State) : (s.setOutputs).schedule = s.schedule := rfl
@[simp] theorem State.setOutputs_nextSet (s : State) : (s.setOutputs).nextSet = s.nextSet := rfl
@[simp] theorem State.setOutputs_sweep (s : State) : (s.setOutputs).sweep = s.sweep := rfl
@[simp] theorem State.setOutputs_claims (s : State) : (s.setOutputs).claims = s.claims := rfl
@[simp] theorem State.setOutputs_links (s : State) : (s.setOutputs).links = s.links := rfl
@[simp] theorem State.setOutputs_pointer (s : State) : (s.setOutputs).pointer = s.pointer := rfl
@[simp] theorem State.setOutputs_ref (s : State) : (s.setOutputs).ref = s.ref := rfl
@[simp] theorem State.setOutputs_table (s : State) : (s.setOutputs).table = s.table := rfl
@[simp] theorem State.setOutputs_gathering (s : State) : (s.setOutputs).gathering = s.gathering := rfl
@[simp] theorem State.setOutputs_paramPort (s : State) : (s.setOutputs).paramPort = s.paramPort := rfl
@[simp] theorem State.setOutputs_tallyPort (s : State) : (s.setOutputs).tallyPort = s.tallyPort := rfl
@[simp] theorem State.setOutputs_engine (s : State) : (s.setOutputs).engine = s.engine := rfl

/-! ### What `softReset` leaves -/

@[simp] theorem State.softReset_pending (s : State) : (s.softReset).pending = s.pending := rfl
@[simp] theorem State.softReset_now (s : State) : (s.softReset).now = s.now := rfl
@[simp] theorem State.softReset_strapHigh (s : State) : (s.softReset).strapHigh = s.strapHigh := rfl
@[simp] theorem State.softReset_running (s : State) : (s.softReset).running = s.running := rfl
@[simp] theorem State.softReset_cfgDefault (s : State) : (s.softReset).cfgDefault = s.cfgDefault := rfl
@[simp] theorem State.softReset_items (s : State) : (s.softReset).items = s.items := rfl

end Sys2Proof.Machine
end

