-- ==== Sys2Proof/Laws/Links.lean ====
section
/-! SUPPORT. What the transmitter's operations do to a link: everything `kick` and `place` can change, and what
a change of claims queues. -/

namespace Sys2Proof.Machine

/-! ### The transmitter -/

/-- Beginning a frame moves no frame past another and changes nothing but where it stands. -/
theorem Link.kick_spec (now : Micros) (k : Link) :
    (k.kick now).outgoing = k.outgoing ∧
      k.kick now = { k with slot := (k.kick now).slot, tx := (k.kick now).tx, line := (k.kick now).line } := by
  obtain ⟨up, _, _, _, _, _, _, slot, tx, line, _, _, _⟩ := k
  cases up <;> cases line <;> cases slot <;> cases tx <;> simp [Link.kick, Link.outgoing]

@[simp] theorem Link.kick_outgoing (now : Micros) (k : Link) : (k.kick now).outgoing = k.outgoing :=
  (k.kick_spec now).1

@[simp] theorem Link.kick_up (now : Micros) (k : Link) : (k.kick now).up = k.up := by
  rw [(k.kick_spec now).2]

/-- A frame placed on a link that is DOWN is discarded (R122). -/
theorem Link.place_down (now : Micros) (f : TxFrame) (k : Link) (h : k.up = false) : k.place now f = k := by
  simp [Link.place, h]

/-- Placing a frame changes nothing but what the link has to send. -/
theorem Link.place_sends (now : Micros) (f : TxFrame) (k : Link) :
    k.place now f =
      { k with slot := (k.place now f).slot, tx := (k.place now f).tx, line := (k.place now f).line } := by
  unfold Link.place
  split
  · rw [(Link.kick_spec now _).2]
  · rfl

@[simp] theorem Link.place_up (now : Micros) (f : TxFrame) (k : Link) : (k.place now f).up = k.up := by
  rw [Link.place_sends]

/-- A frame that is no report goes to the tail of what an UP link has to send (R122). -/
theorem Link.place_outgoing (now : Micros) (f : TxFrame) (k : Link) (h : k.up = true) (hf : reportPlace f = none) :
    (k.place now f).outgoing = k.outgoing ++ [f] := by
  have hp : k.place now f = Link.kick now { k with tx := k.tx ++ [f] } := by simp [Link.place, h, placeIn, hf]
  rw [hp, Link.kick_outgoing]
  simp [Link.outgoing]

/-- Replacing is standing in one report place (R120, R121). -/
theorem TxFrame.replaces_eq (f g : TxFrame) :
    f.replaces g = ((reportPlace f).isSome && (reportPlace g == reportPlace f)) := by
  rw [Bool.eq_iff_iff]
  cases f <;> cases g <;> simp [TxFrame.replaces, reportPlace] <;> exact eq_comm

/-- The queue that a frame is placed in (R121, R122). -/
theorem placeIn_eq (f : TxFrame) (tx : List TxFrame) :
    placeIn f tx = if tx.any f.replaces then tx.map fun g => if f.replaces g then f else g else tx ++ [f] := by
  have h : f.replaces = fun g => (reportPlace f).isSome && (reportPlace g == reportPlace f) :=
    funext (TxFrame.replaces_eq f)
  cases hf : (reportPlace f).isSome <;> simp [placeIn, h, hf]

/-- All that placing a frame does (R121, R122). -/
theorem Link.place_queues (now : Micros) (f : TxFrame) (k : Link) : k.Queues now f (k.place now f) := by
  unfold Link.Queues
  split
  case isFalse h => exact Link.place_down now f k (by simpa using h)
  case isTrue h =>
    have hp : k.place now f = Link.kick now { k with tx := placeIn f k.tx } := by simp [Link.place, h]
    have hne : placeIn f k.tx ≠ [] := by
      rw [placeIn_eq]
      split
      · rename_i ha
        intro he
        simp [List.map_eq_nil_iff.mp he] at ha
      · simp
    refine ⟨k.place_sends now f, ?_, ?_, ?_⟩
    · rw [hp, Link.kick_outgoing, Link.outgoingWith, ← placeIn_eq]
      rfl
    all_goals
      rw [hp]
      obtain ⟨up, _, _, _, _, _, _, slot, tx, line, _, _, _⟩ := k
      obtain ⟨g, rest, hg⟩ := List.exists_cons_of_ne_nil hne
      simp only at h hg
      cases line <;> cases slot <;> simp [Link.kick, Link.outgoing, h, hg]

/-- Placing frames one after another queues them all. -/
theorem Link.foldl_place_queues (now : Micros) (fs : List TxFrame) (k : Link) :
    k.QueuesAll now fs (fs.foldl (fun k f => k.place now f) k) := by
  induction fs generalizing k with
  | nil => rfl
  | cons f fs ih => exact ⟨_, k.place_queues now f, ih _⟩

/-- A link is left in one way only by frames destined for it. -/
theorem Link.Queues.unique {now : Micros} {k i j : Link} {f : TxFrame} (hi : k.Queues now f i) (hj : k.Queues now f j) :
    i = j := by
  unfold Link.Queues at hi hj
  split at hi
  case isFalse h => rw [if_neg h] at hj; rw [hi, hj]
  case isTrue h =>
    rw [if_pos h] at hj
    obtain ⟨si, oi, li, ti⟩ := hi
    obtain ⟨sj, oj, lj, tj⟩ := hj
    have ho : i.outgoing = j.outgoing := oi.trans oj.symm
    have hl : i.line = j.line := by rw [li, lj, ho]
    have hs : i.slot = j.slot := ti.trans tj.symm
    have ht : i.tx = j.tx := by simpa [Link.outgoing, hl, hs] using ho
    rw [si, sj, hl, hs, ht]

/-- A link is left in one way only by frames destined for it one after another. -/
theorem Link.QueuesAll.unique {now : Micros} {fs : List TxFrame} {k i j : Link} (hi : k.QueuesAll now fs i)
    (hj : k.QueuesAll now fs j) : i = j := by
  induction fs generalizing k with
  | nil => rw [hi, hj]
  | cons f fs ih =>
    obtain ⟨x, hx, hi⟩ := hi
    obtain ⟨y, hy, hj⟩ := hj
    rw [hx.unique hy] at hi
    exact ih hi hj

/-- Frames queued in two groups, one after the other. -/
theorem Link.QueuesAll.append {now : Micros} {fs gs : List TxFrame} {k i j : Link} (hf : k.QueuesAll now fs i)
    (hg : i.QueuesAll now gs j) : k.QueuesAll now (fs ++ gs) j := by
  induction fs generalizing k with
  | nil => rw [hf] at hg; exact hg
  | cons f fs ih =>
    obtain ⟨x, hx, hf⟩ := hf
    exact ⟨x, hx, ih hf⟩

/-! ### The reports of a change of claims -/

/-- The subject of a number: the banks, then SYSTEM. -/
def subjectAt (q : Fin 5) : Option BankIx := if h : q.val < 4 then some ⟨q.val, h⟩ else none

theorem subjects_eq : subjects = (indices 5).map subjectAt := by decide

theorem subjectElements_eq : ∀ q, subjectElements (subjectAt q) = (indices 25).filter fun e => e.val / 6 == q.val := by
  decide +kernel

/-- The reports that a change of the Claim Table queues are those that the rules call for (R94, R109). -/
theorem claimReports_eq (before after : Vector (Option Claim) 25) :
    claimReports before after = claimReportsFor before after := by
  have changed : ∀ q : Fin 5,
      (((indices 25).filter fun e => e.val / 6 == q.val).any fun e =>
        claimFace (pick before e) != claimFace (pick after e)) = true ↔
        ∃ e : ElemIx, e.val / 6 = q.val ∧ claimFace (pick before e) ≠ claimFace (pick after e) := fun q => by
    simp [indices]
  rw [claimReports, claimReportsFor, subjects_eq, List.filter_map, List.map_map, ← List.filterMap_eq_map,
    List.filterMap_filter]
  congr 1
  funext q
  simp only [Function.comp_apply, subjectElements_eq, changed, claimReport]
  rfl

/-- What a change of the Claim Table queues on each link (R109, R121). -/
theorem State.setClaims_queues (s : State) (claims : Vector (Option Claim) 25) (l : LinkIx) :
    (s.link l).QueuesAll s.now (claimReportsFor s.claims claims) ((s.setClaims claims).link l) := by
  have h : (s.setClaims claims).link l =
      (claimReports s.claims claims).foldl (fun k f => k.place s.now f) (s.link l) := by
    simp [State.setClaims, State.link]
  rw [h, claimReports_eq]
  exact Link.foldl_place_queues ..

end Sys2Proof.Machine
end

