-- ==== Sys2Proof/Laws/Ports.lean ====
section
/-! SUPPORT. The bits and the times of bytes on a line (R112, R146, R157), what is sent as bytes
(R115, R139), the two things a ready can be
(R159), and what the access on the port comes to when jobs leave and join the queue (R161, R162), and
the items of a good block one after another (R183). -/

namespace Sys2Proof.Machine

/-! ### Bytes on a line -/

@[simp] theorem length_byteOnLine (b : Byte) : (byteOnLine b).length = 10 := rfl

@[simp] theorem bytesOnLine_nil : bytesOnLine [] = [] := rfl

@[simp] theorem bytesOnLine_cons (b : Byte) (bs : List Byte) :
    bytesOnLine (b :: bs) = byteOnLine b ++ bytesOnLine bs := by
  simp [bytesOnLine]

/-- Every byte takes 10 bit times (R112). -/
@[simp] theorem length_bytesOnLine (bs : List Byte) : (bytesOnLine bs).length = 10 * bs.length := by
  induction bs with
  | nil => rfl
  | cons b bs ih => simp [ih]; omega

/-- A frame on a link's line takes 10 µs a byte (R112). -/
@[simp] theorem lineTime_link (f : TxFrame) : lineTime Config.linkRate f.onLine = 10 * f.bytes.length := by
  simp [lineTime, TxFrame.onLine, Config.linkRate]

/-- A record on the Parameter Port's line takes 1 µs a byte (R157). -/
@[simp] theorem lineTime_paramPort (r : ParamRecord) : lineTime Config.portRate r.onLine = r.bytes.length := by
  simp [lineTime, ParamRecord.onLine, Config.portRate]

/-- A frame on the Tally Port's line takes 1 µs a byte (R146). -/
@[simp] theorem lineTime_tallyPort (f : TallyFrame) : lineTime Config.portRate f.onLine = f.bytes.length := by
  simp [lineTime, TallyFrame.onLine, Config.portRate]

/-! ### Bytes of what is sent (R115, R139) -/

@[simp] theorem bigEndian_one (v : Nat) : bigEndian 1 v = [BitVec.ofNat 8 v] := by simp [bigEndian]

@[simp] theorem bigEndian_two (v : Nat) : bigEndian 2 v = [BitVec.ofNat 8 (v / 256), BitVec.ofNat 8 v] := by
  simp [bigEndian]

@[simp] theorem bigEndian_four (v : Nat) :
    bigEndian 4 v =
      [BitVec.ofNat 8 (v / 16777216), BitVec.ofNat 8 (v / 65536), BitVec.ofNat 8 (v / 256), BitVec.ofNat 8 v] := by
  simp [bigEndian]

/-- A CRC-16 goes out high byte first (R115). -/
theorem bigEndian_crc16 (v : BitVec 16) : bigEndian 2 v.toNat = [v.extractLsb' 8 8, v.extractLsb' 0 8] := by
  simp only [bigEndian_two, List.cons.injEq, and_true]
  constructor <;> apply BitVec.eq_of_toNat_eq <;> simp [BitVec.extractLsb'_toNat, Nat.shiftRight_eq_div_pow]

/-- A frame on a link is its start byte, LEN to the end of its body, and the CRC-16 of these (R139). -/
theorem wholeFrame_eq_framed (frameType tag : Byte) (body : List Byte) :
    wholeFrame frameType tag body = framed 0xA5 (BitVec.ofNat 8 (body.length + 2) :: frameType :: tag :: body) := by
  simp [wholeFrame, envelope, framed, bigEndian_crc16, -bigEndian_two]

/-- A record on an output port is its start byte, its length and its body, and the CRC-16 of these (R139). -/
theorem portFrame_eq_framed (body : List Byte) : portFrame body = framed 0x5A (BitVec.ofNat 8 body.length :: body) := by
  simp [portFrame, framed, bigEndian_crc16, -bigEndian_two]

/-! ### Ready -/

/-- A ready with no access on the port is ignored (R159). -/
theorem State.readyIn_idle (s : State) (data : Byte) (dt : Micros) (h : s.engine.port = none) :
    s.readyIn data dt = s.after dt := by
  simp [State.readyIn, State.accessFailedBefore, h, State.ready, State.after]

/-- A ready is in time for the access on the port, or it finds that access failed at its own moment (R159; log 31). -/
theorem State.readyIn_access (s : State) (data : Byte) (dt : Micros) (access : Access)
    (h : s.engine.port = some access) :
    s.readyIn data dt =
      if access.raised + Config.memoryTime < s.now + dt then s.expired.reach (s.now + dt)
      else (s.after dt).ready data := by
  simp [State.readyIn, State.accessFailedBefore, h]

/-! ### The job queue -/

/-- Nothing becomes active while a job is, or while an access is on the port (R161). -/
theorem Engine.activate_busy (g : Engine) (now : Micros) (items : Vector (BitVec 16) 88)
    (h : g.stage.isSome = true ∨ g.port.isSome = true) : g.activate now items = g := by
  obtain ⟨jobs, stage, port⟩ := g
  cases stage <;> cases port <;> simp_all [Engine.activate]

/-- A job that joins the queue behind a busy engine leaves stage and access as they were (R161). -/
theorem Engine.enqueue_busy (g : Engine) (now : Micros) (items : Vector (BitVec 16) 88) (j : Job)
    (h : g.stage.isSome = true ∨ g.port.isSome = true) :
    g.enqueue now items j = { g with jobs := g.jobs ++ [j] } :=
  Engine.activate_busy _ _ _ h

/-- A recall taken out of the queue is abandoned if it is active, its access left in flight (R162). -/
theorem Engine.dropRecall_keepsAccess (g : Engine) (now : Micros) (items : Vector (BitVec 16) 88) (b : BankIx) :
    g.KeepsAccess (g.dropRecall now items b) fun j => j.isRecallOf b = true := by
  obtain ⟨jobs, stage, port⟩ := g
  unfold Engine.KeepsAccess Engine.dropRecall
  cases jobs with
  | nil => simp
  | cons j rest =>
    by_cases hj : j.isRecallOf b = true
    · refine ⟨fun _ access hp => ?_, fun h => absurd hj (h j rfl)⟩
      simp only at hp
      simp [hj, hp, Engine.activate]
    · simp [hj]

/-! ### Start-up -/

/-- Start-up stores the items of a good block in their order: the last after all those before it (R183). -/
theorem State.startUp_append (s : State) (before : List (Nat × BitVec 16)) (entry : Nat × BitVec 16) :
    s.startUp (some (before ++ [entry])) =
      { State.loadItem (before.foldl State.loadItem s) entry with cfgDefault := false, running := true } := by
  simp [State.startUp, List.foldl_append]

end Sys2Proof.Machine
end

