-- ==== Sys2Proof/Laws/Requests.lean ====
section
/-! SUPPORT. What the Arbiter's choice tells of the state, and what the leaving of a request from its queue does not
change of the tests of R126. -/

namespace Sys2Proof.Machine

/-! ### The Arbiter's choice (R123, R124) -/

/-- A link's candidate handed over: the link is UP, the request is its candidate, and its need fits. -/
theorem State.eligible_spec {s : State} {l : LinkIx} {o : Offer} (h : s.eligible l = some o) :
    o.link = l ∧ (s.link l).up = true ∧ (s.link l).candidate s.takeRatio = some (o.queue, ⟨o.tag, o.body⟩) ∧
      o.body.need ≤ s.uncommitted l := by
  unfold State.eligible at h
  split at h
  · rename_i hup
    split at h
    · rename_i q r hc
      split at h
      · rename_i hn
        cases h
        exact ⟨rfl, hup, hc, hn⟩
      · cases h
    · cases h
  · cases h

/-- The request that the Arbiter hands over: the part is RUNNING and the request is its link's candidate. -/
theorem State.offer_spec {s : State} {o : Offer} (h : s.offer = some o) :
    s.running = true ∧ s.eligible o.link = some o ∧ (s.link o.link).up = true := by
  unfold State.offer at h
  split at h
  · rename_i hr
    obtain ⟨l, -, hl⟩ := List.exists_of_findSome?_eq_some h
    obtain ⟨hlink, hup, -, -⟩ := State.eligible_spec hl
    subst hlink
    exact ⟨hr, hl, hup⟩
  · cases h

/-! ### The request leaves its queue -/

@[simp] theorem Link.flow_up (now : Micros) (f : Flow) (k : Link) : (k.flow now f).up = k.up := by
  unfold Link.flow
  split <;> simp

@[simp] theorem State.takeRequest_pointer (s : State) (o : Offer) : (s.takeRequest o).pointer = o.link := rfl

/-- Only the link of the request changes when the request leaves its queue. -/
theorem State.link_takeRequest_other (s : State) {o : Offer} {l : LinkIx} (h : l ≠ o.link) :
    (s.takeRequest o).link l = s.link l := pick_upd_other _ h _

@[simp] theorem State.takeRequest_up (s : State) (o : Offer) (l : LinkIx) :
    ((s.takeRequest o).link l).up = (s.link l).up := by
  simp only [State.takeRequest, State.link, pick_upd]
  split
  · rename_i h
    subst h
    cases o.queue
    · rfl
    · simp only [Link.leaveSetup]
      split <;> simp
  · rfl

@[simp] theorem State.takeRequest_published (s : State) (o : Offer) (b : BankIx) :
    (s.takeRequest o).published b = s.published b := rfl
@[simp] theorem State.takeRequest_bank (s : State) (o : Offer) (b : BankIx) :
    (s.takeRequest o).bank b = s.bank b := rfl
@[simp] theorem State.takeRequest_claim (s : State) (o : Offer) (e : ElemIx) :
    (s.takeRequest o).claim e = s.claim e := rfl
@[simp] theorem State.takeRequest_line (s : State) (o : Offer) (n : LineIx) :
    (s.takeRequest o).line n = s.line n := rfl
@[simp] theorem State.takeRequest_item (s : State) (o : Offer) (n : Nat) :
    (s.takeRequest o).item n = s.item n := rfl
@[simp] theorem State.takeRequest_member (s : State) (o : Offer) (p : LinkIx) (e : ElemIx) :
    (s.takeRequest o).member p e = s.member p e := rfl
@[simp] theorem State.takeRequest_claimRefusal (s : State) (o : Offer) (p : LinkIx) (e : ElemIx) :
    (s.takeRequest o).claimRefusal p e = s.claimRefusal p e := rfl
@[simp] theorem State.takeRequest_elementsRefusal (s : State) (o : Offer) (p : LinkIx) (es : List ElemIx) :
    (s.takeRequest o).elementsRefusal p es = s.elementsRefusal p es := rfl
@[simp] theorem State.takeRequest_freePlaces (s : State) (o : Offer) : (s.takeRequest o).freePlaces = s.freePlaces := rfl
@[simp] theorem State.takeRequest_freePlacesForRecall (s : State) (o : Offer) (b : BankIx) :
    (s.takeRequest o).freePlacesForRecall b = s.freePlacesForRecall b := rfl
@[simp] theorem State.takeRequest_jobsBesideRecall (s : State) (o : Offer) (b : BankIx) :
    (s.takeRequest o).jobsBesideRecall b = s.jobsBesideRecall b := rfl
@[simp] theorem State.takeRequest_bankOf (s : State) (o : Offer) (c : Byte) : (s.takeRequest o).bankOf c = s.bankOf c :=
  rfl
@[simp] theorem State.takeRequest_elementOf (s : State) (o : Offer) (c : Byte) :
    (s.takeRequest o).elementOf c = s.elementOf c := rfl
@[simp] theorem State.takeRequest_bankRegister (s : State) (o : Offer) (b r : Byte) :
    (s.takeRequest o).bankRegister b r = s.bankRegister b r := rfl
@[simp] theorem State.takeRequest_planConfig (s : State) (o : Offer) (i : Byte) (v : BitVec 16) :
    (s.takeRequest o).planConfig i v = s.planConfig i v := rfl
@[simp] theorem State.takeRequest_queryBankOf (s : State) (o : Offer) (c : Byte) :
    (s.takeRequest o).queryBankOf c = s.queryBankOf c := rfl
@[simp] theorem State.takeRequest_claimSubject (s : State) (o : Offer) (c : Byte) :
    (s.takeRequest o).claimSubject c = s.claimSubject c := rfl
@[simp] theorem State.takeRequest_planOf (s : State) (o : Offer) (b : Body) :
    (s.takeRequest o).planOf b = s.planOf b := by cases b <;> rfl
@[simp] theorem State.takeRequest_dueField (s : State) (o : Offer) (n : Nat) :
    (s.takeRequest o).dueField n = s.dueField n := rfl

/-- An UP link's writes stand as they are made: nothing more happens to them (R126). -/
theorem State.settle_up (s : State) (l : LinkIx) (h : (s.link l).up = true) : s.settle l = s := by
  simp [State.settle, h]

/-- A change of the Claim Table leaves every link UP or DOWN as it was. -/
@[simp] theorem State.setClaims_up (s : State) (c : Vector (Option Claim) 25) (l : LinkIx) :
    ((s.setClaims c).link l).up = (s.link l).up := by
  rw [State.link_setClaims]
  generalize claimReports s.claims c = fs
  generalize s.link l = k
  induction fs generalizing k with
  | nil => rfl
  | cons f fs ih => simp [ih]

/-- A change of the Claim Table changes of a link only what it has still to send. -/
theorem State.setClaims_sends (s : State) (c : Vector (Option Claim) 25) (l : LinkIx) :
    ((s.setClaims c).link l).SendsFrom (s.link l) := by
  rw [State.link_setClaims]
  generalize claimReports s.claims c = fs
  generalize s.link l = k
  induction fs generalizing k with
  | nil => rfl
  | cons f fs ih =>
    have hk := Link.place_sends s.now f k
    have := ih (k.place s.now f)
    simp only [List.foldl_cons, Link.SendsFrom] at this ⊢
    rw [this, hk]

end Sys2Proof.Machine
end

