-- ==== Sys2Proof/WellFormed.lean ====
section
/-! DEFINITION. What a well-formed command is. Links, lines and banks are in range by their types. -/

namespace Sys2Proof

/-- A FRAME_ARRIVAL brings at least one byte and at most the 64 of the longest frame (chapter Panel Links,
Receiving frames): a frame discarded early ends with the byte that discards it. Every other command is well formed. -/
def Instr.wellFormed : Instr → Bool
  | .frameArrival _ bytes _ => decide (1 ≤ bytes.length) && decide (bytes.length ≤ 64)
  | _ => true

end Sys2Proof
end

