-- ==== Sys2Proof/Tests/Slice0.lean ====
section
/-! SUPPORT. Tests of the model, each against a value that the specification states, and for every statement with
hypotheses a witness that meets them. -/

open Sys2Proof Sys2Proof.Machine

namespace Sys2Proof.Tests

set_option Elab.async false

/-! ### States to test on -/

/-- The part RUNNING with nothing under way, every PRESENT asserted and the links given UP. -/
def ready (up : List LinkIx) : State :=
  { State.reset with
    running := true
    links := tab fun l => { Link.atPowerOn true with up := up.contains l, since := none }
    engine := { jobs := [], stage := none, port := none } }

/-- A request waiting, with tag 7, at the tail of its queue of a link. -/
def waiting (l : LinkIx) (b : Body) (s : State) : State :=
  s.modLink l fun k => match b.queue with
    | .take => { k with takeQ := k.takeQ ++ [⟨7, b⟩] }
    | .setup => { k with setupQ := k.setupQ ++ [⟨7, b⟩] }

/-- Links 0 and 1 UP, and one request of link 0 waiting. -/
def asking (b : Body) : State := waiting 0 b (ready [0, 1])

/-- What the Arbiter hands over in `asking b`. -/
def offerOf (b : Body) : Offer := ⟨0, b.queue, 7, b⟩

/-- The state a command leaves. -/
def ran (c : Instr) (s : State) : State :=
  match exec c s with
  | .next t => t
  | _ => s

/-- The state with one entry of the Claim Table held. -/
def held (e : ElemIx) (p : LinkIx) (lock orphaned : Bool) (age : Nat) (s : State) : State :=
  { s with claims := upd s.claims e fun _ => some { holder := p, lock := lock, age := age, orphaned := orphaned } }

/-- The state with the working copy of bank 2 changed. -/
def withBank (f : BankRecord → BankRecord) (s : State) : State := s.modWorking 1 f

/-- An entry of link 0 for bank 2, due at field 2. -/
def entry (a : Action) : Entry := newEntry 2 (.link 0 7) 1 a none

/-- The part in the sweep for target field 2 over a list. -/
def sweeping (es : List Entry) (s : State) : State :=
  { s with
    schedule := es
    ref := { s.ref with counter := 1 }
    sweep := some { target := 2, used := 0, deferred := Vector.replicate 4 false } }

/-- A record of bank 2 in each state of R19, half way through. -/
def running (p : Phase) (e : Engagement) (r : BankRecord) : BankRecord :=
  { r with phase := p, progress := 2048, engagement := e, remaining := if p = .auto then 15 else 0 }

/-- The answer to the front request. -/
def answered (s : State) (f : TxFrame) : Bool := (s.link 0).outgoing.getLast? == some f

/-! ### Well-formedness -/

theorem test_empty_frame_is_ill_formed : (Instr.frameArrival 0 [] 0).wellFormed = false := by decide

theorem test_too_long_frame_is_ill_formed :
    (Instr.frameArrival 0 (List.replicate 65 ⟨0xA5, true⟩) 0).wellFormed = false := by decide

theorem test_longest_frame_is_well_formed :
    (Instr.frameArrival 0 (List.replicate 64 ⟨0xA5, true⟩) 0).wellFormed = true := by decide

theorem test_no_word_spells_a_command : decodeTableWord 8 0xA5 = none := by decide

/-! ### Values that the text states -/

/-- R169: "Over the nine bytes of the text "123456789" the CRC is CBF43926h." -/
theorem test_crc32_of_the_digits :
    crc32 [0x31, 0x32, 0x33, 0x34, 0x35, 0x36, 0x37, 0x38, 0x39] = 0xCBF43926#32 := by decide +kernel

/-- The table of R55. -/
theorem test_lever_table :
    [8, 9, 10, 100, 200, 256, 511, 512, 768, 1013, 1014].map leverMap =
        [0, 4, 8, 375, 782, 1010, 2048, 2052, 3094, 4092, 4096] ∧
      [8, 9, 100, 512, 1013, 1023].map (leverValue .inverted) = [4096, 4092, 3721, 2044, 4, 0] := by decide

/-- R52: "From P = 0 with R = D, the first step is round half up of 4096/D, which is at least 4 for every rate up to
999". -/
theorem test_first_step : [1, 30, 999].map (autoStepSize 0) = [4096, 137, 4] := by decide

/-- R59: the lower threshold at the highest published P. -/
theorem test_highest_threshold : lowerThreshold 4095 1 = 4094 ∧ lowerThreshold 4095 0 = 4095 := by decide

/-- R156: a field parameter record has 60 bytes in all. -/
theorem test_parameter_record_length : (paramRecord 0 2 BankRecord.default).bytes.length = 60 := by decide +kernel

/-- R146: a tally frame has 22 bytes. -/
theorem test_tally_frame_length : ((ready []).resolution 2).frame.bytes.length = 22 := by decide +kernel

/-- R139, Tally frame: PGM of source 5 is bit 2 of byte 5, and PVW of source 54 bit 5 of byte 17. -/
theorem test_tally_bits :
    (TallyFrame.body { field := 2, pgm := tab fun c => c.val == 5, pvw := tab fun c => c.val == 54 }) =
      [0, 0, 0, 2, 0, 0x04, 0, 0, 0, 0, 0, 0, 0, 0, 0, 0, 0, 0x20] := by decide +kernel

/-- Chapter The Schedule, worked example: link 2's CANCEL of tag 8 is answered REFUSE NOTFOUND. -/
theorem test_refuse_notfound_bytes :
    (TxFrame.refuse 8 0x0F .notFound none).bytes.take 7 = [0xA5, 0x05, 0x82, 0x08, 0x0F, 0x0E, 0xFF] := by
  decide +kernel

/-- The entry at position 11 of that example after the sweep for 2000, in a report served at F 1999: one field on, tag 63,
KEY-SETUP of bank 1, counted 2. -/
theorem test_schedule_entry_bytes :
    Entry.bytes 1999 { due := 2000, origin := .link 5 63, bank := 0, action := .keySetup 2 {
        fill := some 1, key := some 2, kind := none, clip := none, gain := none, invert := none }
                       linked := none, count := some 2, dealt := true } = [0x00, 0x13, 0xF7, 0x02] := by decide +kernel

/-- R139: the fields of the layouts of 52 and 56 bytes have all of their bits. -/
theorem test_layouts_are_whole (b : BankIx) (n : FieldNo) (r : BankRecord) (p : ParamRecord) :
    ((bankStateLayout b n r).map LayoutField.bits).sum = 8 * 52 ∧ (p.layout.map LayoutField.bits).sum = 8 * 56 := by
  simp [bankStateLayout, Keyer.layout, ParamRecord.layout, ParamKeyer.layout, bytesField, bitsField, indices,
    List.finRange_succ]

/-- R157: a start bit, 8 data bits with the least significant first and a stop bit; a record of 60 bytes lasts 60 µs. -/
theorem test_line_coding :
    byteOnLine 0x01 = [.start, .data true, .data false, .data false, .data false, .data false, .data false, .data false,
      .data false, .stop] ∧
      lineTime Config.portRate (paramRecord 0 2 BankRecord.default).onLine = 60 := by decide +kernel

/-- R176: NONE with invert drives a steady high; with the table empty every mark reads clear. -/
theorem test_driven_levels :
    drivenLevel none 0x8008 0 = some true ∧ drivenLevel none 0x8001 0 = some false ∧ drivenLevel none 0x0008 0 = none ∧
      drivenLevel (some (State.reset.resolution 2)) 0x8001 0 = some true := by decide +kernel

/-- R159: without ready within 64 µs the access, and with it the load, has failed; a later ready is ignored. -/
theorem test_late_ready_is_ignored :
    (ran (.memoryReady 0x5A 65) State.reset).cfgDefault = true ∧
      (ran (.memoryReady 0x5A 65) State.reset).running = true ∧
      (ran (.memoryReady 0x5A 64) State.reset).running = false := by decide +kernel

/-- Request bodies: a SELECT of IN4 on bus B of bank 2, lead 0, has type 01h and the bytes 02 01 04 00. -/
theorem test_select_body : parseBody 0x01 [2, 1, 4, 0] = .select 2 1 4 0 := by decide

/-- R139: a LEVER carries its position most significant byte first. -/
theorem test_lever_body : parseBody 0x05 [2, 1, 44] = .lever 2 300 := by decide

/-- R116: an unknown type and a wrong length. -/
theorem test_malformed_bodies :
    parseBody 0x7F [] = .malformed 0x7F .badType ∧ parseBody 0x02 [1] = .malformed 0x02 .badLength := by decide

/-- R142: during STARTING each resolution marks code 0 as PGM and as PVW, and no other. -/
theorem test_black_on_air :
    (indices 55).filter (fun c => pick (State.reset.resolution 2).pgm c) = [0] ∧
      (indices 55).filter (fun c => pick (State.reset.resolution 2).pvw c) = [0] := by decide +kernel

/-! ### One step each -/

theorem test_power_on_samples_the_strap : (ran (.powerOn false) State.reset).item 1 = 2 := by decide +kernel

theorem test_select_is_due_two_fields_on :
    answered (ran .select (asking (.select 2 1 4 3))) (.accept 7 0x01 (.due 5)) = true := by decide +kernel

theorem test_own_re_entry_is_refused :
    answered (ran .select (asking (.select 2 0 52 0))) (.refuse 7 0x01 .loop none) = true := by decide +kernel

theorem test_cut_of_two_banks_is_linked :
    (ran .cut (asking (.cut 6 0))).schedule.map (fun e => (e.bank, e.linked.isSome)) = [(1, true), (2, true)] := by
  decide +kernel

theorem test_clip_is_clamped :
    answered (ran .keySetup (asking (.keySetup 2 1 8 99 99 0 2000 0 0 0)))
      (.accept 7 0x07 (.dueKey 2 ⟨none, none, none, some 1023, none, none⟩)) = true := by decide +kernel

theorem test_rate_zero_is_stored_as_one :
    answered (ran .transSetup (asking (.transSetup 2 2 9 0 99 9 0 0 9 0)))
      (.accept 7 0x08 (.dueTrans 2 ⟨none, some 1, none, none, none, none, none⟩)) = true := by decide +kernel

theorem test_lever_takes_no_reply :
    ((ran .lever (asking (.lever 2 5000))).bank 1).lever = some { position := 1023, writer := 0 } ∧
      ((ran .lever (asking (.lever 2 5000))).link 0).tx.all (fun f => (reportPlace f).isSome) = true := by
  decide +kernel

theorem test_touch_hold_is_clamped :
    answered (ran .config (asking (.config 4 5000))) (.accept 7 0x10 (.item 4 1023)) = true := by decide +kernel

theorem test_break_of_an_own_lock_is_refused :
    answered (ran .breakLock (held 7 0 true false 3 (asking (.breakLock 7)))) (.refuse 7 0x0C .locked (some 0)) = true := by
  decide +kernel

theorem test_cancel_of_nothing_is_refused :
    answered (ran .cancel (asking (.cancel 9))) (.refuse 7 0x0F .notFound none) = true := by decide +kernel

theorem test_first_field_start_announces_two :
    ((ran .freerunDeadline (ready [0])).bank 0).updateDue = some 2 ∧ (ran .freerunDeadline (ready [0])).ref.counter = 1 := by
  decide +kernel

theorem test_early_pulse_is_spurious : (ran (.refPulse 7999) (ready [0])).ref.spurious = 1 := by decide +kernel

theorem test_relock_at_half_the_period : (ran (.refPulse 10000) (ready [0])).ref.locked = true := by decide +kernel

theorem test_cut_exchanges_a_and_b :
    ((ran .sweepEntry (sweeping [entry .cut] (withBank (fun r => { r with a := 3, b := 4 }) (ready [0])))).working 1).a =
      4 := by decide +kernel

theorem test_hold_of_an_idle_bank_is_ignored :
    answered (ran .sweepEntry (sweeping [entry .hold] (ready [0]))) (.notice 7 .ignored (some 1)) = true := by
  decide +kernel

theorem test_default_pin_edge_is_falling :
    ((ran (.gpiFilterExpiry 3) ({ ready [0] with lines := tab fun _ =>
      { GpiLine.atPowerOn true with pin := false, timer := some 500 } })).line 3).edge = true := by decide +kernel

theorem test_bad_signature_leaves_the_defaults :
    (ran (.memoryReady 0 1) (ran (.memoryReady 0 1) (ran (.memoryReady 0 1) State.reset))).cfgDefault = true ∧
      (ran (.memoryReady 0 1) (ran (.memoryReady 0 1) (ran (.memoryReady 0 1) State.reset))).running = true := by
  decide +kernel

theorem test_empty_register :
    answered (ran (.memoryTimeout) (ran .recallEffect (asking (.recallEffect 2 5 0)))) (.notice 7 .memFault (some 1)) =
      true := by decide +kernel

/-! ### Witnesses: served requests -/

/-- The test that a request is handed over and accepted. -/
def accepted (s : State) (b : Body) : Bool := (s.offer == some (offerOf b)) && (s.verdict (offerOf b)).isNone

/-- A SETUP queue at 9 with hold-off ON. -/
def heldOff : State := (ready [0]).modLink 0 fun k => { k with holdOff := true, setupQ := List.replicate 9 ⟨7, .reset⟩ }

theorem witness_ArbiterServesTheFirstEligibleLink :
    (asking (.cut 2 0)).offer = some (offerOf (.cut 2 0)) ∧
      (asking .saveConfig).offer = some (offerOf .saveConfig) ∧
      heldOff.offer = some (offerOf .reset) ∧ ((heldOff.takeRequest (offerOf .reset)).link 0).setupQ.length = 8 ∧
      (heldOff.link 0).holdOff = true ∧
      [3, 4].map (fun run => ((waiting 0 (.cut 2 0) (asking .reset)).link 0 |> fun k =>
          ({ k with takeRun := run } : Link).candidate 4)) =
        [some (.take, ⟨7, .cut 2 0⟩), some (.setup, ⟨7, .reset⟩)] := by decide +kernel

theorem witness_RefusedRequestWritesNothing :
    (asking (.malformed 0x7F .badType)).offer = some (offerOf (.malformed 0x7F .badType)) ∧
      (asking (.malformed 0x7F .badType)).verdict (offerOf (.malformed 0x7F .badType)) = some (.badType, none) ∧
      (held 7 1 false false 0 (asking (.cut 2 0))).offer = some (offerOf (.cut 2 0)) ∧
      (held 7 1 false false 0 (asking (.cut 2 0))).verdict (offerOf (.cut 2 0)) = some (.held, some 1) ∧
      (ready []).valueFault (.cut 2 0) = none ∧
      [Body.select 5 2 0 0, .select 1 2 0 0, .select 1 1 55 0, .select 1 1 51 0, .cut 0 0, .layers 1 32 0, .claim 25,
        .recallEffect 4 100 0, .config 7 0, .query 1 5, .keySetup 1 4 1 51 0 0 0 0 0 0].map (ready []).valueFault =
      [some .badBank, some .badValue, some .badSource, some .loop, some .badBank, some .badValue, some .badValue,
        some .badValue, some .badValue, some .badValue, some .loop] := by
  decide +kernel

/-- One scheduled request of each kind. -/
def scheduledBodies : List Body :=
  [.select 2 1 4 255, .cut 15 0, .auto 2 0, .hold 2 0, .keyCut 2 4 1 0, .keySetup 2 1 63 1 54 1 5 6 1 0,
    .transSetup 2 127 1 30 15 2 9 9 1 0, .layers 2 31 0]

theorem witness_AcceptedChangeIsScheduled :
    ∀ b ∈ scheduledBodies, (asking b).offer = some (offerOf b) ∧ (asking b).verdict (offerOf b) = none ∧
      ((asking b).planOf b).any (fun p => match p.1 with | .ok _ => true | .error _ => false) = true := by
  decide +kernel

/-- A RECALL of bank 2 waiting behind an older recall of the bank. -/
def recallAgain : State := waiting 0 (.recallEffect 2 99 0) (ran .recallEffect (asking (.recallEffect 2 0 0)))

theorem witness_AcceptedRecallIsQueued :
    recallAgain.RecallsPaired ∧ recallAgain.offer = some (offerOf (.recallEffect 2 99 0)) ∧
      recallAgain.bankRegister 2 99 = .ok (1, 99) ∧ recallAgain.verdict (offerOf (.recallEffect 2 99 0)) = none ∧
      (∃ e ∈ recallAgain.schedule, e.isRecallOf 1 = true ∧ e.origin = .link 0 7) ∧ (recallAgain.link 0).up = true := by
  refine ⟨?_, by decide +kernel, by decide +kernel, by decide +kernel, by decide +kernel, by decide +kernel⟩
  unfold State.RecallsPaired
  exact ⟨by unfold State.LinkedTakes; decide +kernel, trivial, by decide +kernel, by decide +kernel⟩

theorem witness_AcceptedLeverWritesItsRegister :
    (asking (.lever 4 1024)).offer = some (offerOf (.lever 4 1024)) ∧ (asking (.lever 4 1024)).bankOf 4 = .ok 3 ∧
      (asking (.lever 4 1024)).verdict (offerOf (.lever 4 1024)) = none ∧
      accepted (held 19 0 true false 9 (asking (.lever 4 1024))) (.lever 4 1024) = true := by decide +kernel

theorem witness_ClaimReleaseAndBreakWriteTheirElement :
    accepted (asking (.claim 24)) (.claim 24) = true ∧
      accepted (held 24 0 false false 9 (asking (.release 24))) (.release 24) = true ∧
      accepted (held 24 2 true true 9 (asking (.breakLock 24))) (.breakLock 24) = true ∧
      (asking (.claim 24)).elementOf 24 = .ok 24 ∧
      (held 24 0 false false 9 (asking (.release 24))).elementOf 24 = .ok 24 ∧
      (held 24 2 true true 9 (asking (.breakLock 24))).elementOf 24 = .ok 24 := by decide +kernel

theorem witness_AcceptedStoreAndSaveQueueAJob :
    accepted (asking (.store 1 99)) (.store 1 99) = true ∧ (asking (.store 1 99)).bankRegister 1 99 = .ok (0, 99) ∧
      accepted (asking .saveConfig) .saveConfig = true := by decide +kernel

/-- A CANCEL of link 0 waiting behind an AUTO and a recall with the tag it names. -/
def cancelling : State :=
  waiting 0 (.cancel 7) (ran .auto (waiting 0 (.auto 3 0) (ran .recallEffect (asking (.recallEffect 2 0 0)))))

theorem witness_CancelRemovesItsLinksEntries :
    cancelling.RecallsPaired ∧ cancelling.offer = some (offerOf (.cancel 7)) ∧
      cancelling.verdict (offerOf (.cancel 7)) = none := by
  refine ⟨?_, by decide +kernel, by decide +kernel⟩
  unfold State.RecallsPaired
  exact ⟨by unfold State.LinkedTakes; decide +kernel, trivial, by decide +kernel, by decide +kernel⟩

theorem witness_AcceptedConfigStoresItsValue :
    (accepted (asking (.config 1 99)) (.config 1 99) = true ∧ (asking (.config 1 99)).planConfig 1 99 = .ok (1, 15)) ∧
      (accepted (asking (.config 48 0)) (.config 48 0) = true ∧ (asking (.config 48 0)).planConfig 48 0 = .ok (48, 0)) ∧
      (accepted (asking (.config 71 0x8009)) (.config 71 0x8009) = true ∧
        (asking (.config 71 0x8009)).planConfig 71 0x8009 = .ok (71, 0x8009)) ∧
      (accepted (asking (.config 72 54)) (.config 72 54) = true ∧
        (asking (.config 72 54)).planConfig 72 54 = .ok (72, 54)) := by decide +kernel

theorem witness_SoftResetKeepsConfigurationAndReference : accepted (asking .reset) .reset = true := by decide +kernel

theorem witness_QueriesAnswerTheStateAsItStands :
    accepted (asking (.query 3 0)) (.query 3 0) = true ∧ accepted (asking (.query 4 0)) (.query 4 0) = true ∧
      accepted (asking (.query 5 1)) (.query 5 1) = true ∧ accepted (asking (.query 6 87)) (.query 6 87) = true ∧
      accepted (asking (.query 7 0)) (.query 7 0) = true :=
  ⟨by decide +kernel, by decide +kernel, by decide +kernel, by decide +kernel, by decide +kernel⟩

theorem witness_BankAndClaimQueriesTakeTheirReportPlace :
    (asking (.query 1 4)).offer = some (offerOf (.query 1 4)) ∧ (asking (.query 1 4)).queryBankOf 4 = .ok 3 ∧
      (asking (.query 2 0)).offer = some (offerOf (.query 2 0)) ∧ (asking (.query 2 0)).claimSubject 0 = .ok none := by
  decide +kernel

/-! ### Witnesses: arithmetic and the controller -/

theorem witness_LeverPositionsMapOntoProgress :
    leverMap 8 = 0 ∧ leverMap 9 = 4 ∧ leverMap 1013 = 4092 ∧ leverMap 1014 = 4096 ∧ leverMap 1023 = 4096 ∧
      BankRecord.default.sense = .normal := by decide

theorem witness_WipeTermsFollowSoftnessAndProgress :
    edgeWidth 0 = 0 ∧ 0 < edgeWidth 1 ∧ edgeWidth 255 = 1020 ∧
      ({ BankRecord.default with softness := 255 }).softness = 255 := by decide

theorem witness_AutoRunsCompleteAtTheirRate :
    recomputed 999 1 = 999 ∧ recomputed 1 4095 = 1 ∧
      (Bank.default.working.phase = .idle ∧ Bank.default.working.progress = 0 ∧ Bank.default.working.rate = 30 ∧
        Bank.default.lever = none) := ⟨by decide, by decide, by decide⟩

theorem witness_CutCompletesTheTransition :
    BankRecord.default.startTest 2 = true ∧ hasKey (31 : LayerSet) 3 = true ∧ BankRecord.default.phase = .idle := by
  decide

/-- Legal records of bank 2: IDLE at rates 1, 2 and 999, and one in each other state. -/
theorem witness_AutoStartsResumesOrIsADuplicate :
    (∀ d ∈ [1, 2, 999], ({ BankRecord.default with rate := d }).Legal) ∧
      (running .auto .pickup BankRecord.default).Legal ∧ (running .lever .following BankRecord.default).Legal ∧
      (running .paused .pickupBelow BankRecord.default).Legal := by
  refine ⟨?_, ?_, ?_, ?_⟩ <;> simp [BankRecord.Legal, BankRecord.default, running, Engagement.awaiting, Config.whole]

theorem witness_HoldPausesAnAuto :
    ((withBank (running .auto .pickup) (ready [])).working 1).phase = .auto ∧
      ((ready []).working 1).phase ≠ .auto ∧
      ((withBank (running .paused .pickup) (ready [])).working 1).phase = .paused ∧
      ((withBank (running .paused .pickup) (ready [])).bank 1).lever = none ∧
      leverValue ((ready []).working 1).sense 511 = 2048 ∧ leverValue ((ready []).working 1).sense 510 < 2048 ∧
      2048 < leverValue ((ready []).working 1).sense 512 := by decide +kernel

theorem witness_KeyCutTurnsOneKeyer :
    ((ready []).working 1).keyReadyTest 2 0 = true ∧ hasKey (2 : LayerSet) 0 = true ∧
      (((ready []).working 1).keyer 0).onAir = false := by decide +kernel

theorem witness_SelectOfAIsHot :
    hasBkgd ((ready []).working 1).layers = true ∧ reentered 52 = some 1 ∧ (ready []).inClosure 1 1 = true := by
  decide +kernel

/-- R17: a re-entry code on the key bus of a LUMA keyer that is OFF closes a loop as any other does. -/
theorem test_unseen_key_closes_a_loop :
    (withBank (fun r => r.modKeyer 0 fun k => { k with key := 53, kind := .luma, onAir := false }) (ready [])).inClosure
      1 2 = true := by decide +kernel

theorem witness_SetupActionsWriteWhatTheySelect :
    ((ready []).working 1).phase = .idle ∧ ((withBank (fun r => { r with layers := 0 }) (ready [])).working 1).layers = 0 ∧
      State.judge (withBank (running .auto .pickup) (ready [])) 1 (.transSetup ⟨some .wipe, none, none, none, none, none,
        none⟩) 2 = .refuse .busy := by decide +kernel

/-- An effect with one listed keyer. -/
def effect : Effect :=
  { a := 3, b := 54, kind := .wipe, rate := 12, pattern := 15, direction := .flipflop, softness := 255, borderWidth := 1
    borderColour := .bkgd2, layers := 17
    keyers := #v[none, none, none, some ⟨5, 6, .linear, true, true, 1023, 0⟩] }

theorem witness_RecallTakesItsWholeRecord :
    (({ ready [] with banks := upd (ready []).banks 1 fun k => { k with staging := some effect } }).working 1).Legal ∧
      ({ ready [] with banks := upd (ready []).banks 1 fun k => { k with staging := some effect } } : State).bank 1 =
        { Bank.default with staging := some effect } := by
  refine ⟨?_, by decide +kernel⟩
  have h : ({ ready [] with banks := upd (ready []).banks 1 fun k => { k with staging := some effect } } : State).working
      1 = BankRecord.default := by decide +kernel
  rw [h]
  simp [BankRecord.Legal, BankRecord.default]

theorem witness_LeverEngagesAsItsStateCallsFor :
    ∀ e ∈ [Engagement.pickup, .pickupBelow, .pickupAbove],
      (running .auto e BankRecord.default).progress = 2048 ∧ (running .paused e BankRecord.default).engagement = e ∧
        (running .lever .following BankRecord.default).phase = .lever ∧ BankRecord.default.engagement = .free ∧
        leverValue .normal 1014 = 4096 := by decide

/-! ### Witnesses: the schedule -/

theorem witness_InsertionKeepsDueOrder :
    (∀ e ∈ [entry .cut, entry .hold], e.due = 2) ∧ [entry .cut, entry .hold] ≠ [] ∧
      (∀ x ∈ [entry .cut, { entry .cut with due := 9 }], (x.due - 2).toNat < 2147483648) ∧
      [entry .cut, { entry .cut with due := 9 }].Pairwise (fun x y => atLeast y.due x.due = true) := by decide

/-- Bank 2 with a source to change, in the sweep for field 2. -/
theorem witness_SweepAppliesAnEntry :
    nextDue 2 [entry (.select .b 4)] = some (entry (.select .b 4)) ∧ stale 2 2 = false ∧
      (sweeping [entry (.select .b 4)] (ready [0])).judge 1 (.select .b 4) 2 = .goAhead 1 none ∧
      (sweeping [entry .hold] (ready [0])).judge 1 .hold 2 = .goAhead 0 (some .ignored) := by decide +kernel

theorem witness_SweepRefusesAnEntry :
    nextDue 2 [entry (.select .b 52)] = some (entry (.select .b 52)) ∧
      (sweeping [entry (.select .b 52)] (ready [0])).judge 1 (.select .b 52) 2 = .refuse .loop ∧
      stale 1073741826 2 = true ∧ atLeast 1073741826 2 = true ∧
      (entry (.recallEffect 5 true)).isRecallOf 1 = true := by decide +kernel

theorem witness_SweepDefersAnEntry :
    (entry (.recallEffect 5 false)).fetching = true ∧
      (sweeping [entry .cut] (withBank (fun r => { r with dwellEnd := 3 }) (ready [0]))).judge 1 .cut 2 = .holdBack ∧
      (16 < 16 + 1) ∧ nextDue 2 [entry .cut] = some (entry .cut) := by decide +kernel

theorem witness_SweepEndReachesEveryEnabledBank :
    nextDue 2 [{ entry .cut with due := 3 }] = none ∧ nextDue 2 [entry .cut] = some (entry .cut) := by decide

/-- A linked set of two banks in the sweep for field 2. -/
def linkedSet : List Entry := newEntries 2 (.link 0 7) [1, 2] .cut 5

theorem witness_LinkedSetWaitsAsAWhole :
    nextDue 2 linkedSet = linkedSet.head? ∧ setMembers 5 (unswept linkedSet) = linkedSet ∧
      (∀ m ∈ linkedSet, stale 2 m.due = false) ∧
      (sweeping linkedSet (withBank (fun r => { r with dwellEnd := 3 }) (ready [0]))).judge 1 .cut 2 = .holdBack := by
  decide +kernel

/-- The worked example's entries 6 and 7: a set deferred for one member's bank counts 0 with each. -/
theorem test_deferred_set_counts :
    ((ran .sweepLinkedSet (sweeping linkedSet (withBank (fun r => { r with dwellEnd := 3 }) (ready [0])))).schedule.map
      Entry.count) = [some 0, some 0] := by decide +kernel

/-- A SELECT met by a sweep that has made 16 changes, or one with every bank deferred. -/
def lateSelect (all : Bool) : State :=
  { sweeping [entry (.select .b 3)] (ready [0]) with
    sweep := some { target := 2, used := 16, deferred := Vector.replicate 4 all } }

/-- The worked example's entries 11 and 12: one deferred by the budget has its count, one behind it is not judged. -/
theorem test_deferred_counts :
    ([false, true].map fun all => (ran .sweepEntry (lateSelect all)).schedule.map Entry.count) = [[some 1], [none]] := by
  decide +kernel

theorem witness_LinkedSetLandsTogether :
    (sweeping linkedSet (ready [0])).LinkedTakes ∧ (linkedSet.map Entry.bank).Nodup ∧
      nextDue 2 linkedSet = linkedSet.head? ∧
      (∀ m ∈ linkedSet, (sweeping linkedSet (ready [0])).judge m.bank m.action 2 = .goAhead 0 none) ∧
      nextDue 1073741826 linkedSet = linkedSet.head? ∧ ∃ m ∈ linkedSet, stale 1073741826 m.due = true := by
  refine ⟨by unfold State.LinkedTakes; decide +kernel, by decide +kernel, by decide +kernel, by decide +kernel,
    by decide +kernel, by decide +kernel⟩

/-! ### Witnesses: the field -/

theorem witness_FieldUpdatePublishesTheBank :
    ((ran .freerunDeadline (ready [0])).bank 1).updateDue = some 2 := by decide +kernel

/-- The banks told of sweep-end 2, some of them gathered for field 2. -/
def gathered (banks : Vector Bool 4) : State :=
  { ran .freerunDeadline (ready [0]) with gathering := some { field := 2, banks := banks } }

theorem witness_LastPublicationResolvesTheTally :
    ((gathered #v[true, true, true, false]).bank 3).updateDue = some 2 ∧
      (∀ c : BankIx, c = 3 ∨ pick (#v[true, true, true, false]) c = true) ∧
      (gathered #v[true, true, true, false]).enabled 0 = true ∧
      ((gathered #v[false, true, true, false]).bank 3).updateDue = some 2 ∧
      pick (#v[false, true, true, false]) (0 : BankIx) = false := by decide +kernel

theorem witness_PulsesAndDeadlinesMakeFieldStarts :
    (ready []).now ≤ (ready []).ref.deadline ∧ (ready []).ref.locked = false ∧ (ready []).ref.period / 2 = 10000 ∧
      (ran (.refPulse 10000) (ready [])).ref.locked = true := by decide +kernel

theorem witness_OutputPortsSendInOrder :
    ∃ r f, (ran (.fieldUpdate 1) (ran .freerunDeadline (ready [0]))).paramPort.line = some (r, 20000) ∧
      ((ready [0]).resolve 2).tallyPort.line = some (f, 0) := by
  refine ⟨paramRecord 1 2 BankRecord.default, ((ready [0]).resolution 2).frame, ?_, ?_⟩ <;> decide +kernel

/-! ### Witnesses: the links -/

theorem witness_PresentBringsALinkUpWithItsLocks :
    (State.reset.modLink 2 fun k => { k with present := true, since := some 4 }).link 2 =
        { Link.atPowerOn false with present := true, since := some 4 } ∧
      (held 24 2 true true 9 (ready [0])).claim 24 = some { holder := 2, lock := true, age := 9, orphaned := true } := by
  decide +kernel

theorem witness_LinkDownClearsQueuesLeversAndTouches :
    ((ready [0]).modLink 0 fun k => { k with present := false, since := some 4 }).link 0 =
      { Link.atPowerOn true with up := true, present := false, since := some 4 } := by decide +kernel

theorem witness_WholeFramesArriveAsTheyWereSent :
    ((ready [0]).link 0).up = true ∧ ((ready [0]).link 0).receiver = .hunting ∧
      (List.replicate 58 (0 : Byte)).length ≤ 58 := by decide +kernel

theorem witness_BytesAreTakenOrTheFrameDiscarded :
    (((ready [0]).modLink 0 fun k => { k with receiver := .inFrame [0xA5] 0 }).link 0).receiver = .inFrame [0xA5] 0 ∧
      ((ready [0]).link 1).up = false ∧
      (([0xA5, 60] : List Byte)[1]? = some 60 ∧ crcGood [2, 1, 0, 0, 0] = false) := by decide +kernel

theorem witness_ArrivingRequestsJoinTheirQueue :
    ((ready [0]).link 0).takeQ = [] ∧ ((ready [0]).link 0).holdOff = false ∧ ((ready [0]).link 0).up = true ∧
      (Body.lever 2 5).leverBank = some 2 ∧ (Body.lever 2 9).leverBank = some 2 ∧ Body.reset.queue = .setup ∧
      (Body.cut 1 0).queue = .take ∧ (Body.cut 1 0).leverBank = none := by decide +kernel

theorem witness_TransmitEndBeginsTheNextFrame :
    ((ran .cancel (asking (.cancel 9))).link 0).line = some (.refuse 7 0x0F .notFound none, 0) ∧
      ((ran .cancel (asking (.cancel 9))).link 0).up = true ∧ (ran .cancel (asking (.cancel 9))).now = 0 := by
  decide +kernel

/-! ### Witnesses: claims, memory and GPI -/

theorem witness_ElementsAreJudgedByTheTable :
    (ready [0]).member 0 7 = true ∧ ({ ready [0] with items := Vector.replicate 88 0 } : State).member 0 7 = false ∧
      ({ ready [0] with items := Vector.replicate 88 1 } : State).touchHold = 1 ∧ (ready [0]).touchHold = 50 ∧
      (held 7 1 false false 49 (ready [0])).claim 7 = some { holder := 1, lock := false, age := 49, orphaned := false } := by
  decide +kernel

theorem witness_ClaimChangesAreReported :
    claimFace (pick (held 7 1 true false 0 (ready [0])).claims 7) ≠ claimFace ((ready [0]).claim 7) ∧
      claimFace (pick (held 7 1 true false 5 (ready [0])).claims 7) =
        claimFace ((held 7 1 true false 0 (ready [0])).claim 7) := by decide +kernel

/-- A job active, with its last write on the port. -/
def lastWrite (j : Job) : State :=
  { ready [0] with
    engine := { jobs := [j], stage := some (.writing []), port := some { address := 0, data := some 1, raised := 0 } } }

/-- The CRC-32 of a configuration block of no items. -/
def emptyBlockCrc : BitVec 32 := crc32 [0x5A, 0xC3, 0]

theorem witness_ReadyTakesTheActiveJobOn :
    State.reset.engine.port.isSome = true ∧
      advance true { address := 0, data := none, raised := 0 } 0x5A (.loading []) = .readOn (.loading [0x5A]) 1 ∧
      advance true { address := 0, data := none, raised := 0 } 0 (.loading [0, 0]) = .loaded none ∧
      advance true { address := 0, data := none, raised := 0 } 0 (.directory (List.replicate 9 0)) = .failed .emptyReg ∧
      advance true { address := 0, data := some 1, raised := 0 } 0 (.writing [(5, 6)]) = .writeOn [(5, 6)] ∧
      (lastWrite (.save 0 7)).engine.stage = some (.writing []) ∧
      State.reset.engine.port = some { address := 0, data := none, raised := 0 } ∧ 0 + 64 < State.reset.now + 65 ∧
      [([0, 0, 9, 0, 13, 1, 0] : List Byte), [0, 0, 9, 0, 12, 1, 0], [0, 0, 9, 0, 13, 0, 0]].map (fun got =>
          advance true { address := 0, data := none, raised := 0 } 8 (.chain 16 13 0 [] got)) =
        [.readOn (.fragments 13 0 [⟨9, 13, true, 8⟩] []) 9, .failed .badRecord,
          .readOn (.chain 16 13 0 [⟨9, 13, false, 8⟩] []) 24] ∧
      advance true { address := 0, data := none, raised := 0 } 8 (.fragments 13 0 [⟨9, 13, true, 8⟩] [5]) =
        .readOn (.fragments 13 0 [⟨9, 13, true, 8⟩] [5, 8]) 11 ∧
      advance true { address := 0, data := none, raised := 0 } 0 (.loading [0x5A, 0xC3]) =
        .readOn (.loading [0x5A, 0xC3, 0]) 3 ∧
      advance true { address := 0, data := none, raised := 0 } 81 (.loading [0x5A, 0xC3]) = .loaded none ∧
      emptyBlockCrc ≠ 0 ∧
      advance true { address := 0, data := none, raised := 0 } (emptyBlockCrc.extractLsb' 0 8) (.loading
        [0x5A, 0xC3, 0, emptyBlockCrc.extractLsb' 24 8, emptyBlockCrc.extractLsb' 16 8,
          emptyBlockCrc.extractLsb' 8 8]) = .loaded (some []) ∧
      advance true { address := 0, data := none, raised := 0 } 0 (.loading [0x5A, 0xC3, 0, 0, 0, 0]) = .loaded none := by
  decide +kernel

theorem witness_TimeoutEndsTheJobWithMemfault :
    (lastWrite (.save 0 7)).engine.port = some { address := 0, data := some 1, raised := 0 } ∧
      (lastWrite (.save 0 7)).now ≤ 0 + 64 := by decide +kernel

theorem witness_StoredRecordReadsBackAsItsEffect : BankRecord.default.InRange false := by
  unfold BankRecord.InRange
  decide +kernel

theorem witness_SavedBlockLoadsEveryItem :
    (∀ i : Fin 88, assigned i.val = true →
      State.reset.itemValue i.val (pick State.reset.items i) = .ok (pick State.reset.items i)) ∧
      isItemNumber 7 = false ∧ isItemNumber 64 = true ∧ isItemNumber 87 = true ∧
      State.reset.codeFault 64 0 0x8005 = some .badValue ∧ State.reset.codeFault 64 0 0x8004 = none ∧
      State.reset.codeFault 72 0x8001 55 = some .badSource := by decide +kernel

/-- R183: of an item that appears twice the later value stands, clamped to its range. -/
theorem test_later_item_stands :
    (State.reset.startUp (some [(6, 3), (7, 1), (6, 99)])).item 6 = 15 := by decide +kernel

theorem witness_GpiPinsAreFilteredThenAccepted :
    modeOut 0x8000 = true ∧ modeOut ((ready []).gpiMode 0) = false ∧ filterTime ((ready []).gpiMode 0) = 500 ∧
      filterTime 0x0010 = 0 ∧ ((ready []).line 0).accepted = false := by decide +kernel

/-- Line 0 with the mode and the argument given. -/
def lineSet (mode arg : BitVec 16) (s : State) : State :=
  { s with items := upd (upd s.items 64 fun _ => mode) 72 fun _ => arg }

theorem witness_GpiActionsYieldToLocksAndRoom :
    (((ready []).gpiMode 0).toNat / 256) % 8 = 0 ∧
    (((lineSet 0x0115 6 (ready [])).gpiMode 0).toNat / 256) % 8 = 1 ∧
      (indices 4).filter (fun b => ((lineSet 0x0115 6 (ready [])).gpiArg 0).getLsbD b.val &&
        (lineSet 0x0115 6 (ready [])).enabled b) = [1, 2] ∧
      (((lineSet 0x0415 0x0263 (ready [])).gpiMode 0).toNat / 256) % 8 = 4 ∧
      ((lineSet 0x0415 0x0263 (ready [])).gpiArg 0).toNat / 256 = 2 ∧
      ((lineSet 0x0415 0x0263 (ready [])).gpiArg 0).toNat % 256 = 99 ∧
      (∀ e ∈ bankElements 1, (lineSet 0x0415 0x0263 (ready [])).claim e = none) ∧
      (lineSet 0x0415 0x0263 (ready [])).schedule = [] ∧ (lineSet 0x0415 0x0263 (ready [])).engine.jobs = [] := by
  decide +kernel

theorem witness_GpiRecallFindsRecallsPaired : (lineSet 0x0415 0x0263 recallAgain).RecallsPaired := by
  unfold State.RecallsPaired
  exact ⟨by unfold State.LinkedTakes; decide +kernel, trivial, by decide +kernel, by decide +kernel⟩

/-! ### Witnesses: the invariants -/

/-- A state with a linked set in its list, a request waiting and the command that serves it. -/
def underWay : State := { sweeping linkedSet (asking (.cut 2 0)) with pending := [.cut, .sweepLinkedSet] }

theorem witness_ListsQueuesBudgetAndItemsStayBounded :
    underWay.ScheduleBounded ∧ underWay.QueuesBounded ∧ underWay.BudgetKept ∧ underWay.ReferenceLegal ∧
      underWay.ItemsLegal := by
  refine ⟨?_, ?_, ?_, ?_, ?_⟩
  · unfold State.ScheduleBounded; decide +kernel
  · unfold State.QueuesBounded; decide +kernel
  · refine ⟨by unfold State.LinkedTakes; decide +kernel, fun w h => ?_⟩
    have : underWay.sweep = some { target := 2, used := 0, deferred := Vector.replicate 4 false } := by decide +kernel
    rw [this] at h
    cases h
    decide
  · unfold State.ReferenceLegal; decide +kernel
  · unfold State.ItemsLegal; decide +kernel

theorem witness_ControllersStayLegal : underWay.ControllersLegal := by
  refine ⟨by unfold State.LinkedTakes; decide +kernel, fun b => ?_, ?_⟩
  · have h : ∀ c, underWay.bank c = Bank.default := by decide +kernel
    rw [h]
    simp [Bank.Legal, Bank.default, BankRecord.Legal, BankRecord.default]
  · intro e he
    have h : e ∈ linkedSet := he
    simp [linkedSet, newEntries, newEntry] at h
    rcases h with rfl | rfl <;> trivial

theorem witness_ReentryStaysAcyclic : underWay.ReentryAcyclic := by
  refine ⟨by unfold State.LinkedTakes; decide +kernel, by decide +kernel⟩

theorem witness_ClaimsFollowLinksAndAbsentBanksStayIdle : (ran (.powerOn false) State.reset).AbsentBanksIdle := by
  refine ⟨⟨fun e c h => ?_, by decide +kernel⟩, by decide +kernel⟩
  have hn : ∀ f, (ran (.powerOn false) State.reset).claim f = none := by decide +kernel
  simp [hn] at h

theorem witness_EveryNoticeFindsRoom : underWay.TransmitRoom := by
  refine ⟨⟨by unfold State.LinkedTakes; decide +kernel, trivial, by decide +kernel, by decide +kernel⟩, by decide +kernel⟩

end Sys2Proof.Tests
end

section
/-! The legal forms of a bank record (R19, R52): which records are legal, state by state, and every change of a record
that keeps it so. -/

open Sys2Proof Sys2Proof.Machine

namespace Sys2Proof.TransitionController

/-! ### Legal records, state by state -/

theorem legal_iff_of_idle {r : BankRecord} (hp : r.phase = .idle) :
    r.Legal ↔ 1 ≤ r.rate ∧ r.rate ≤ 999 ∧ r.progress = 0 ∧ r.remaining = 0 ∧
      (r.engagement = .free ∨ r.engagement = .parked) := by
  simp [BankRecord.Legal, hp]

theorem legal_iff_of_auto {r : BankRecord} (hp : r.phase = .auto) :
    r.Legal ↔ 1 ≤ r.rate ∧ r.rate ≤ 999 ∧ 1 ≤ r.progress ∧ r.progress ≤ 4095 ∧ 1 ≤ r.remaining ∧ r.remaining ≤ 999 ∧
      r.remaining + r.progress ≤ 4096 ∧ r.engagement.awaiting = true ∧ r.layers ≠ 0 := by
  simp [BankRecord.Legal, hp]

theorem legal_iff_of_lever {r : BankRecord} (hp : r.phase = .lever) :
    r.Legal ↔ 1 ≤ r.rate ∧ r.rate ≤ 999 ∧ 1 ≤ r.progress ∧ r.progress ≤ 4095 ∧ r.remaining = 0 ∧
      r.engagement = .following ∧ r.layers ≠ 0 := by
  simp [BankRecord.Legal, hp]

theorem legal_iff_of_paused {r : BankRecord} (hp : r.phase = .paused) :
    r.Legal ↔ 1 ≤ r.rate ∧ r.rate ≤ 999 ∧ 1 ≤ r.progress ∧ r.progress ≤ 4095 ∧ r.remaining = 0 ∧
      r.engagement.awaiting = true ∧ r.layers ≠ 0 := by
  simp [BankRecord.Legal, hp]

theorem legal_of_idle {r : BankRecord} (hp : r.phase = .idle) (hrate : 1 ≤ r.rate ∧ r.rate ≤ 999)
    (h : r.progress = 0 ∧ r.remaining = 0 ∧ (r.engagement = .free ∨ r.engagement = .parked)) : r.Legal :=
  (legal_iff_of_idle hp).mpr ⟨hrate.1, hrate.2, h⟩

theorem legal_of_auto {r : BankRecord} (hp : r.phase = .auto) (hrate : 1 ≤ r.rate ∧ r.rate ≤ 999)
    (h : 1 ≤ r.progress ∧ r.progress ≤ 4095 ∧ 1 ≤ r.remaining ∧ r.remaining ≤ 999 ∧
      r.remaining + r.progress ≤ 4096 ∧ r.engagement.awaiting = true ∧ r.layers ≠ 0) : r.Legal :=
  (legal_iff_of_auto hp).mpr ⟨hrate.1, hrate.2, h⟩

theorem legal_of_lever {r : BankRecord} (hp : r.phase = .lever) (hrate : 1 ≤ r.rate ∧ r.rate ≤ 999)
    (h : 1 ≤ r.progress ∧ r.progress ≤ 4095 ∧ r.remaining = 0 ∧ r.engagement = .following ∧ r.layers ≠ 0) : r.Legal :=
  (legal_iff_of_lever hp).mpr ⟨hrate.1, hrate.2, h⟩

theorem legal_of_paused {r : BankRecord} (hp : r.phase = .paused) (hrate : 1 ≤ r.rate ∧ r.rate ≤ 999)
    (h : 1 ≤ r.progress ∧ r.progress ≤ 4095 ∧ r.remaining = 0 ∧ r.engagement.awaiting = true ∧ r.layers ≠ 0) :
    r.Legal :=
  (legal_iff_of_paused hp).mpr ⟨hrate.1, hrate.2, h⟩

/-- The rate of a legal record is in its range (R5). -/
theorem legal_rate {r : BankRecord} (h : r.Legal) : 1 ≤ r.rate ∧ r.rate ≤ 999 := ⟨h.1, h.2.1⟩

/-- A running bank is strictly between the ends of its transition and has layers to change (R19). -/
theorem legal_running {r : BankRecord} (h : r.Legal) (hp : r.phase ≠ .idle) :
    1 ≤ r.progress ∧ r.progress ≤ 4095 ∧ r.layers ≠ 0 := by
  cases hr : r.phase with
  | idle => exact absurd hr hp
  | auto =>
    obtain ⟨-, -, hlow, hhigh, -, -, -, -, hlayers⟩ := (legal_iff_of_auto hr).mp h
    exact ⟨hlow, hhigh, hlayers⟩
  | lever =>
    obtain ⟨-, -, hlow, hhigh, -, -, hlayers⟩ := (legal_iff_of_lever hr).mp h
    exact ⟨hlow, hhigh, hlayers⟩
  | paused =>
    obtain ⟨-, -, hlow, hhigh, -, -, hlayers⟩ := (legal_iff_of_paused hr).mp h
    exact ⟨hlow, hhigh, hlayers⟩

/-! ### The arithmetic of the auto step (R51 to R53) -/

/-- An auto step that does not complete leaves a step to come and at least one part in 4096 for each (R52). -/
theorem autoStepSize_leaves_room {p left : Nat} (hleft : 1 ≤ left) (hroom : left + p ≤ 4096)
    (hshort : p + autoStepSize p left < 4096) :
    1 ≤ autoStepSize p left ∧ 2 ≤ left ∧ left - 1 + (p + autoStepSize p left) ≤ 4096 := by
  obtain ⟨x, hx⟩ : ∃ x, x = 4096 - p := ⟨_, rfl⟩
  obtain ⟨q, hq⟩ : ∃ q, q = autoStepSize p left := ⟨_, rfl⟩
  have hdiv : q = (2 * x + left) / (2 * left) := by rw [hq, hx]; rfl
  have hlow : 2 * left * q ≤ 2 * x + left := by rw [hdiv]; exact Nat.mul_div_le ..
  have hhigh : 2 * x + left < 2 * left * (q + 1) := by
    rw [hdiv]
    exact Nat.lt_mul_div_succ _ (by omega)
  rw [← hq] at hshort ⊢
  have hq1 : 1 ≤ q := by
    by_contra h
    have : q = 0 := by omega
    subst this
    omega
  have hleft2 : 2 ≤ left := by
    by_contra h
    have : left = 1 := by omega
    subst this
    omega
  refine ⟨hq1, hleft2, ?_⟩
  suffices q + left ≤ x + 1 by omega
  by_contra h
  obtain ⟨d, rfl⟩ : ∃ d, x = left + d := ⟨x - left, by omega⟩
  have hmul : 2 * left * (d + 2) ≤ 2 * left * q := Nat.mul_le_mul_left _ (by omega)
  nlinarith

/-- R recomputed from P is in its range and leaves a part in 4096 for each step to come (R52, R53). -/
theorem recomputed_bounds {rate p : Nat} (hrate : rate ≤ 999) (hp : p ≤ 4095) :
    1 ≤ recomputed rate p ∧ recomputed rate p ≤ 999 ∧ recomputed rate p + p ≤ 4096 := by
  have hmul : rate * (4096 - p) ≤ 999 * (4096 - p) := Nat.mul_le_mul_right _ hrate
  simp only [recomputed, Config.whole]
  omega

/-! ### Changes of a record keep it legal -/

theorem complete_legal {r : BankRecord} (h : r.Legal) (n : FieldNo) (dwell : Nat) (byLever : Bool) :
    (r.complete n dwell byLever).Legal := by
  have hrate := legal_rate h
  refine legal_of_idle rfl hrate ⟨rfl, rfl, ?_⟩
  cases byLever <;> simp [BankRecord.complete]

/-- A record in a legal form for an auto step to come, P = 0 allowed (R25, R52). -/
def ReadyToStep (r : BankRecord) : Prop :=
  (1 ≤ r.rate ∧ r.rate ≤ 999) ∧ r.phase = .auto ∧ 1 ≤ r.remaining ∧ r.remaining ≤ 999 ∧
    r.remaining + r.progress ≤ 4096 ∧ r.engagement.awaiting = true ∧ r.layers ≠ 0

theorem readyToStep_of_legal {r : BankRecord} (h : r.Legal) (hp : r.phase = .auto) : ReadyToStep r := by
  obtain ⟨-, -, -, -, hleft, hleft', hroom, heng, hlayers⟩ := (legal_iff_of_auto hp).mp h
  exact ⟨legal_rate h, hp, hleft, hleft', hroom, heng, hlayers⟩

/-- The two ways an auto step goes (R51). -/
theorem autoStep_cases (r : BankRecord) (n : FieldNo) (dwell : Nat) :
    4096 ≤ r.progress + autoStepSize r.progress r.remaining ∧ r.autoStep n dwell = r.complete n dwell false ∨
      r.progress + autoStepSize r.progress r.remaining < 4096 ∧
        r.autoStep n dwell = BankRecord.setLevels
          { r with progress := r.progress + autoStepSize r.progress r.remaining, remaining := r.remaining - 1 } := by
  simp only [BankRecord.autoStep]
  split
  · rename_i h; exact .inl ⟨h, rfl⟩
  · rename_i h; exact .inr ⟨Nat.lt_of_not_le h, rfl⟩

theorem autoStep_legal {r : BankRecord} (h : ReadyToStep r) (n : FieldNo) (dwell : Nat) :
    (r.autoStep n dwell).Legal ∧ (r.autoStep n dwell).phase ≠ .lever := by
  obtain ⟨hrate, hp, hleft, hleft', hroom, heng, hlayers⟩ := h
  obtain ⟨-, hstep⟩ | ⟨hshort, hstep⟩ := autoStep_cases r n dwell
  · rw [hstep]
    refine ⟨legal_of_idle rfl hrate ⟨rfl, rfl, .inr rfl⟩, ?_⟩
    simp [BankRecord.complete]
  · obtain ⟨hsize, hleft2, hroom2⟩ := autoStepSize_leaves_room hleft hroom hshort
    rw [hstep]
    refine ⟨legal_of_auto hp hrate ⟨?_, ?_, ?_, ?_, hroom2, heng, hlayers⟩, ?_⟩
    · exact Nat.le_trans hsize (Nat.le_add_left ..)
    · exact Nat.le_of_lt_succ hshort
    · exact Nat.le_sub_one_of_lt hleft2
    · exact Nat.le_trans (Nat.sub_le ..) hleft'
    · simp [BankRecord.setLevels, hp]

theorem withdraw_legal {r : BankRecord} (h : r.Legal) : r.withdraw.Legal :=
  have hrate := legal_rate h
  legal_of_idle rfl hrate ⟨rfl, rfl, .inl rfl⟩

theorem follow_legal {r : BankRecord} (h : r.Legal) (hlayers : r.layers ≠ 0) (n : FieldNo) (dwell v : Nat) :
    (r.follow n dwell v).Legal := by
  have hrate := legal_rate h
  unfold BankRecord.follow
  split
  · exact complete_legal h ..
  · split
    · exact withdraw_legal h
    · rename_i hwhole hzero
      exact legal_of_lever rfl hrate ⟨Nat.one_le_iff_ne_zero.mpr hzero,
        Nat.le_of_lt_succ (Nat.lt_of_not_le hwhole), rfl, rfl, hlayers⟩

/-- A change of engagement among those of R19's row keeps a bank in AUTO or PAUSED legal. -/
theorem engagement_legal {r : BankRecord} (h : r.Legal) (hp : r.phase = .auto ∨ r.phase = .paused) {e : Engagement}
    (he : e.awaiting = true) : BankRecord.Legal { r with engagement := e } := by
  have hrate := legal_rate h
  cases hp with
  | inl hp =>
    obtain ⟨-, -, hlow, hhigh, hleft, hleft', hroom, -, hlayers⟩ := (legal_iff_of_auto hp).mp h
    exact legal_of_auto hp hrate ⟨hlow, hhigh, hleft, hleft', hroom, he, hlayers⟩
  | inr hp =>
    obtain ⟨-, -, hlow, hhigh, hleft, -, hlayers⟩ := (legal_iff_of_paused hp).mp h
    exact legal_of_paused hp hrate ⟨hlow, hhigh, hleft, he, hlayers⟩

theorem unpark_legal {r : BankRecord} (h : r.Legal) (hp : r.phase = .idle) (v : Nat) : (r.unpark v).Legal := by
  have hrate := legal_rate h
  obtain ⟨-, -, hprogress, hremaining, -⟩ := (legal_iff_of_idle hp).mp h
  unfold BankRecord.unpark
  split
  · exact legal_of_idle hp hrate ⟨hprogress, hremaining, .inl rfl⟩
  · split
    · exact legal_of_idle hp hrate ⟨hprogress, hremaining, .inl rfl⟩
    · exact h

theorem leverStart_legal {r : BankRecord} (h : r.Legal) (n : FieldNo) (dwell v : Nat) :
    (r.leverStart n dwell v).Legal := by
  unfold BankRecord.leverStart
  split
  · rename_i hstart
    exact follow_legal h hstart.2.1 ..
  · exact h

theorem pickUp_legal {r : BankRecord} (h : r.Legal) (hp : r.phase = .auto ∨ r.phase = .paused) (n : FieldNo)
    (dwell v : Nat) : (r.pickUp n dwell v).Legal := by
  have hrate := legal_rate h
  obtain ⟨hlow, hhigh, hlayers⟩ := legal_running h (by rcases hp with hp | hp <;> simp [hp])
  unfold BankRecord.pickUp
  split
  · split
    · exact engagement_legal h hp rfl
    · split
      · exact engagement_legal h hp rfl
      · exact legal_of_lever rfl hrate ⟨hlow, hhigh, rfl, rfl, hlayers⟩
  · split
    · exact follow_legal h hlayers ..
    · exact h
  · split
    · exact follow_legal h hlayers ..
    · exact h
  · exact h

/-- Whatever rule of engagement applies, it leaves a legal record (R42 to R46). -/
theorem engage_legal {r : BankRecord} (h : r.Legal) (n : FieldNo) (dwell v : Nat) : (r.engage n dwell v).Legal := by
  unfold BankRecord.engage
  split
  · rename_i hp
    split
    · exact leverStart_legal h ..
    · exact unpark_legal h hp v
    · exact h
  · rename_i hp
    split
    · exact follow_legal h (legal_running h (by simp [hp])).2.2 ..
    · exact h
  · rename_i hp
    exact pickUp_legal h (.inl hp) ..
  · rename_i hp
    exact pickUp_legal h (.inr hp) ..

/-- The clearing of the lever register leaves a legal record that is not in LEVER (R40). -/
theorem leverCleared_legal {r : BankRecord} (h : r.Legal) : r.leverCleared.Legal ∧ r.leverCleared.phase ≠ .lever := by
  have hrate := legal_rate h
  unfold BankRecord.leverCleared
  split <;> rename_i hp
  · obtain ⟨-, -, hprogress, hremaining, -⟩ := (legal_iff_of_idle hp).mp h
    exact ⟨legal_of_idle hp hrate ⟨hprogress, hremaining, .inr rfl⟩, by simp [hp]⟩
  · obtain ⟨-, -, hlow, hhigh, -, -, hlayers⟩ := (legal_iff_of_lever hp).mp h
    exact ⟨legal_of_paused rfl hrate ⟨hlow, hhigh, rfl, rfl, hlayers⟩, by simp⟩
  · exact ⟨engagement_legal h (.inl hp) rfl, by simp [hp]⟩
  · exact ⟨engagement_legal h (.inr hp) rfl, by simp [hp]⟩

/-- A record whose keyers alone have changed is legal as before. -/
theorem keyers_legal {r : BankRecord} (h : r.Legal) (keyers : Vector Keyer 4) :
    BankRecord.Legal { r with keyers := keyers } := h

theorem select_legal {r : BankRecord} (h : r.Legal) (n : FieldNo) (prepare : Nat) (bus : Bus) (source : Source) :
    (r.select n prepare bus source).Legal ∧ (r.select n prepare bus source).phase = r.phase := by
  cases bus <;> exact ⟨h, rfl⟩

theorem hold_legal {r : BankRecord} (h : r.Legal) :
    r.hold.Legal ∧ (r.hold.phase = .lever → r.phase = .lever) := by
  have hrate := legal_rate h
  unfold BankRecord.hold
  split
  · rename_i hp
    obtain ⟨hlow, hhigh, hlayers⟩ := legal_running h (by simp [hp])
    exact ⟨legal_of_paused rfl hrate ⟨hlow, hhigh, rfl, rfl, hlayers⟩,
      by simp⟩
  · exact ⟨h, id⟩

theorem keyCut_legal {r : BankRecord} (h : r.Legal) (k : KeyerIx) (on : Bool) :
    (r.keyCut k on).Legal ∧ (r.keyCut k on).phase = r.phase := by
  unfold BankRecord.keyCut
  split
  · exact ⟨h, rfl⟩
  · exact ⟨keyers_legal h _, rfl⟩

theorem transSetup_legal {r : BankRecord} (h : r.Legal) {f : TransFields}
    (hf : ∀ v, f.rate = some v → 1 ≤ v ∧ v ≤ 999) : (r.transSetup f).Legal := by
  have hrate : 1 ≤ f.rate.getD r.rate ∧ f.rate.getD r.rate ≤ 999 := by
    cases hv : f.rate with
    | none => exact legal_rate h
    | some v => exact hf v hv
  by_cases hp : r.phase = .auto
  · obtain ⟨-, -, hlow, hhigh, hleft, hleft', hroom, heng, hlayers⟩ := (legal_iff_of_auto hp).mp h
    obtain ⟨hnew, hnew', hnewroom⟩ := recomputed_bounds hrate.2 hhigh
    by_cases hc : changes f.rate r.rate = true
    · have hr : (r.transSetup f).remaining = recomputed (f.rate.getD r.rate) r.progress := by
        simp [BankRecord.transSetup, hp, hc]
      refine legal_of_auto hp hrate ⟨hlow, hhigh, ?_⟩
      rw [hr]
      exact ⟨hnew, hnew', hnewroom, heng, hlayers⟩
    · have hr : (r.transSetup f).remaining = r.remaining := by
        simp [BankRecord.transSetup, hc]
      refine legal_of_auto hp hrate ⟨hlow, hhigh, ?_⟩
      rw [hr]
      exact ⟨hleft, hleft', hroom, heng, hlayers⟩
  · have hr : (r.transSetup f).remaining = r.remaining := by
      simp [BankRecord.transSetup, hp]
    cases hq : r.phase with
    | idle =>
      obtain ⟨-, -, hrest⟩ := (legal_iff_of_idle hq).mp h
      exact legal_of_idle hq hrate (by rw [hr]; exact hrest)
    | auto => exact absurd hq hp
    | lever =>
      obtain ⟨-, -, hrest⟩ := (legal_iff_of_lever hq).mp h
      exact legal_of_lever hq hrate (by rw [hr]; exact hrest)
    | paused =>
      obtain ⟨-, -, hrest⟩ := (legal_iff_of_paused hq).mp h
      exact legal_of_paused hq hrate (by rw [hr]; exact hrest)

/-- An abort leaves an IDLE bank (R34). -/
theorem abort_idle {r : BankRecord} (h : r.Legal) :
    r.abort.phase = .idle ∧ r.abort.progress = 0 ∧ r.abort.remaining = 0 := by
  unfold BankRecord.abort
  split
  · exact ⟨rfl, rfl, rfl⟩
  · rename_i hr
    have hp : r.phase = .idle := by simpa [BankRecord.isRunning] using hr
    obtain ⟨-, -, hprogress, hremaining, -⟩ := (legal_iff_of_idle hp).mp h
    exact ⟨hp, hprogress, hremaining⟩

end Sys2Proof.TransitionController
end

section
/-! The legal forms of a bank (R19, R39, R68): every change of a bank keeps it legal. -/

open Sys2Proof Sys2Proof.Machine

namespace Sys2Proof.TransitionController

/-! ### Banks -/

/-- What performing an action takes for granted of its record: an AUTO finds layers to change, and LAYERS an IDLE
bank. -/
def Performable (r : BankRecord) : Action → Prop
  | .auto => r.layers ≠ 0
  | .layers _ => r.phase = .idle
  | _ => True

/-- An AUTO performed (R25, R26) keeps a bank legal. -/
theorem auto_legal {k : Bank} (h : k.Legal) (hlayers : k.working.layers ≠ 0) (n : FieldNo) (dwell : Nat) :
    (k.auto n dwell).Legal := by
  obtain ⟨hw, hpub, hread, hpos, hstage⟩ := h
  have hrate := legal_rate hw
  cases hp : k.working.phase with
  | idle =>
    obtain ⟨-, -, hprogress, -, -⟩ := (legal_iff_of_idle hp).mp hw
    have hready : ReadyToStep { k.working with phase := .auto, remaining := k.working.rate, engagement := .pickup } :=
      ⟨hrate, rfl, hrate.1, hrate.2, by simp only [hprogress]; omega, rfl, hlayers⟩
    obtain ⟨hlegal, hphase⟩ := autoStep_legal hready n dwell
    simp only [Bank.auto, hp]
    exact ⟨hlegal, hpub, fun hl => absurd hl hphase, hpos, hstage⟩
  | auto =>
    simp only [Bank.auto, hp]
    exact ⟨hw, hpub, hread, hpos, hstage⟩
  | lever | paused =>
    obtain ⟨hlow, hhigh, -⟩ := legal_running hw (by simp [hp])
    obtain ⟨hleft, hleft', hroom⟩ := recomputed_bounds hrate.2 hhigh
    simp only [Bank.auto, hp]
    exact ⟨legal_of_auto rfl hrate ⟨hlow, hhigh, hleft, hleft', hroom, rfl, hlayers⟩, hpub, by simp, hpos, hstage⟩

/-- A record put in place of the working copy keeps a bank legal, if it is legal and no new LEVER. -/
theorem working_legal {k : Bank} (h : k.Legal) {r : BankRecord} (hr : r.Legal)
    (hp : r.phase = .lever → k.working.phase = .lever) : Bank.Legal { k with working := r } := by
  obtain ⟨-, hpub, hread, hpos, hstage⟩ := h
  exact ⟨hr, hpub, fun hl => hread (hp hl), hpos, hstage⟩

/-- A staging record emptied keeps a bank legal. -/
theorem unstaged_legal {k : Bank} (h : k.Legal) : Bank.Legal { k with staging := none } := by
  obtain ⟨hw, hpub, hread, hpos, -⟩ := h
  exact ⟨hw, hpub, hread, hpos, by simp⟩

/-- A recall applied leaves a legal IDLE record (R34, R35). -/
theorem applyEffect_legal {r : BankRecord} (h : r.Legal) (n : FieldNo) (prepare : Nat) {e : Effect}
    (he : 1 ≤ e.rate ∧ e.rate ≤ 999) :
    (r.abort.applyEffect n prepare e).Legal ∧ (r.abort.applyEffect n prepare e).phase = .idle := by
  obtain ⟨hphase, hprogress, hremaining⟩ := abort_idle h
  exact ⟨legal_of_idle hphase he ⟨hprogress, hremaining, .inr rfl⟩, hphase⟩

/-- An action performed on a record that it fits keeps its bank legal (R24 to R35). -/
theorem perform_legal {k : Bank} (h : k.Legal) {a : Action} (ha : a.RateLegal) (hfit : Performable k.working a)
    (n : FieldNo) (dwell prepare : Nat) : (k.perform a n dwell prepare).Legal := by
  have hw := h.1
  cases a with
  | select bus source =>
    obtain ⟨hlegal, hp⟩ := select_legal hw n prepare bus source
    exact working_legal h hlegal (hp ▸ id)
  | cut => exact working_legal h (complete_legal hw ..) (by simp [BankRecord.complete])
  | auto => exact auto_legal h hfit ..
  | hold => exact working_legal h (hold_legal hw).1 (hold_legal hw).2
  | keyCut y on =>
    obtain ⟨hlegal, hp⟩ := keyCut_legal hw y on
    exact working_legal h hlegal (hp ▸ id)
  | keySetup y f => exact working_legal h (keyers_legal hw _) id
  | transSetup f => exact working_legal h (transSetup_legal hw ha) id
  | layers set =>
    have hrate := legal_rate hw
    have hp : k.working.phase = .idle := hfit
    obtain ⟨-, -, hrest⟩ := (legal_iff_of_idle hp).mp hw
    exact working_legal h (legal_of_idle hp hrate hrest) id
  | recallEffect register staged =>
    cases hs : k.staging with
    | none => simpa only [Bank.perform, hs] using h
    | some e =>
      obtain ⟨hlegal, hp⟩ := applyEffect_legal hw n prepare (h.2.2.2.2 e hs)
      simp only [Bank.perform, hs]
      exact unstaged_legal (working_legal h hlegal (by simp [hp]))

theorem clearLever_legal {k : Bank} (h : k.Legal) : k.clearLever.Legal := by
  obtain ⟨hw, hpub, -, -, hstage⟩ := h
  obtain ⟨hlegal, hphase⟩ := leverCleared_legal hw
  exact ⟨hlegal, hpub, fun hl => absurd hl hphase, by simp [Bank.clearLever], hstage⟩

/-- The auto step of a field update leaves a legal record, in LEVER only if the bank was (R47). -/
theorem stepAuto_legal {k : Bank} (h : k.Legal) (n : FieldNo) (dwell : Nat) :
    (k.stepAuto n dwell).Legal ∧ ((k.stepAuto n dwell).phase = .lever → k.working.phase = .lever) := by
  unfold Bank.stepAuto
  split
  · rename_i hstep
    obtain ⟨hlegal, hphase⟩ := autoStep_legal (readyToStep_of_legal h.1 hstep.1) n dwell
    exact ⟨hlegal, fun hl => absurd hl hphase⟩
  · exact ⟨h.1, id⟩

theorem readLever_legal {r : BankRecord} (h : r.Legal) (lever : Option LeverReading) (n : FieldNo) (dwell : Nat) :
    (r.readLever lever n dwell).Legal := by
  cases lever with
  | none => exact h
  | some reading => exact engage_legal h ..

/-- A field update brings a legal bank to a legal record, in LEVER only on a reading (R47). -/
theorem brought_legal {k : Bank} (h : k.Legal) (n : FieldNo) (dwell : Nat) :
    (k.brought n dwell).Legal ∧ ((k.brought n dwell).phase = .lever → k.lever.isSome = true) := by
  obtain ⟨hlegal, hphase⟩ := stepAuto_legal h n dwell
  refine ⟨readLever_legal hlegal k.lever n dwell, fun hp => ?_⟩
  change ((k.stepAuto n dwell).readLever k.lever n dwell).phase = .lever at hp
  cases hl : k.lever with
  | none =>
    rw [hl] at hp
    exact absurd (h.2.2.1 (hphase hp)) (by simp [hl])
  | some reading => rfl

theorem publish_legal {k : Bank} (h : k.Legal) (n : FieldNo) (dwell : Nat) : (k.publish n dwell).Legal := by
  obtain ⟨hlegal, hread⟩ := brought_legal h n dwell
  exact ⟨hlegal, hlegal, hread, h.2.2.2.1, h.2.2.2.2⟩

end Sys2Proof.TransitionController
end

section
/-! The controllers stay legal (R19, R52) under every operation on the banks and on the schedule list: claims, levers,
the list, the sweep, the field and the Memory Engine. -/

open Sys2Proof Sys2Proof.Machine

namespace Sys2Proof.TransitionController

/-! ### The banks and the schedule of a state -/

/-- An entry that may stand in the schedule list: a linked one is a take, and a rate it carries is in its range. -/
def LawfulEntry (e : Entry) : Prop := (e.linked.isSome = true → e.action.isTake = true) ∧ e.action.RateLegal

/-- Legality of the controllers is a matter of the banks one by one and of the entries one by one. -/
theorem controllersLegal_iff (s : State) :
    s.ControllersLegal ↔ (∀ b, (s.bank b).Legal) ∧ ∀ e ∈ s.schedule, LawfulEntry e := by
  constructor
  · rintro ⟨hlinked, hbanks, hrates⟩
    exact ⟨hbanks, fun e he => ⟨hlinked e he, hrates e he⟩⟩
  · rintro ⟨hbanks, hentries⟩
    exact ⟨fun e he => (hentries e he).1, hbanks, fun e he => (hentries e he).2⟩

/-- Controllers stay legal where legal banks stay legal and no unlawful entry joins the list. -/
theorem keeps_of {s t : State} (h : s.ControllersLegal) (hb : ∀ b, (s.bank b).Legal → (t.bank b).Legal)
    (he : ∀ e ∈ t.schedule, e ∈ s.schedule ∨ LawfulEntry e) : t.ControllersLegal := by
  obtain ⟨hbanks, hentries⟩ := (controllersLegal_iff s).mp h
  exact (controllersLegal_iff t).mpr ⟨fun b => hb b (hbanks b), fun e hmem => (he e hmem).elim (hentries e) id⟩

theorem keeps_of_banks {s t : State} (h : s.ControllersLegal) (hb : ∀ b, (s.bank b).Legal → (t.bank b).Legal)
    (hs : t.schedule = s.schedule) : t.ControllersLegal :=
  keeps_of h hb fun _ he => .inl (hs ▸ he)

theorem keeps_of_eq {s t : State} (h : s.ControllersLegal) (hb : t.banks = s.banks) (hs : t.schedule = s.schedule) :
    t.ControllersLegal :=
  keeps_of_banks h (fun b hk => by rwa [State.bank, hb]) hs

theorem keeps_of_schedule {s t : State} (h : s.ControllersLegal) (hb : t.banks = s.banks)
    (he : ∀ e ∈ t.schedule, e ∈ s.schedule ∨ LawfulEntry e) : t.ControllersLegal :=
  keeps_of h (fun b hk => by rwa [State.bank, hb]) he

/-- One bank changed to a legal one keeps every bank legal. -/
theorem upd_legal {banks : Vector Bank 4} {b : BankIx} {f : Bank → Bank}
    (hf : (pick banks b).Legal → (f (pick banks b)).Legal) (c : BankIx) (hc : (pick banks c).Legal) :
    (pick (upd banks b f) c).Legal := by
  rw [pick_upd]
  split
  · rename_i heq
    exact hf (heq ▸ hc)
  · exact hc

theorem bank_legal {s : State} (h : s.ControllersLegal) (b : BankIx) : (s.bank b).Legal :=
  ((controllersLegal_iff s).mp h).1 b

theorem entry_lawful {s : State} (h : s.ControllersLegal) {e : Entry} (he : e ∈ s.schedule) : LawfulEntry e :=
  ((controllersLegal_iff s).mp h).2 e he

/-! ### Claims and levers -/

theorem setClaims_keeps {s : State} (h : s.ControllersLegal) (claims : Vector (Option Claim) 25) :
    (s.setClaims claims).ControllersLegal := by
  refine keeps_of_banks h (fun b hb => ?_) rfl
  rw [State.bank_setClaims]
  split
  · exact hb
  · exact clearLever_legal hb

theorem clearLeversOf_keeps {s : State} (h : s.ControllersLegal) (l : LinkIx) :
    (s.clearLeversOf l).ControllersLegal := by
  refine keeps_of_banks h (fun b hb => ?_) rfl
  simp only [State.clearLeversOf, State.bank, pick_tab] at hb ⊢
  split
  · split
    · exact clearLever_legal hb
    · exact hb
  · exact hb

theorem linkLost_keeps {s : State} (h : s.ControllersLegal) (l : LinkIx) : (s.linkLost l).ControllersLegal :=
  setClaims_keeps (clearLeversOf_keeps h l) _

theorem settle_keeps {s : State} (h : s.ControllersLegal) (l : LinkIx) : (s.settle l).ControllersLegal := by
  unfold State.settle
  split
  · exact h
  · exact linkLost_keeps h l

theorem writeLever_keeps {s : State} (h : s.ControllersLegal) (l : LinkIx) (b : BankIx) (position : Nat) :
    (s.writeLever l b position).ControllersLegal := by
  refine keeps_of_banks h (upd_legal fun hk => ?_) rfl
  obtain ⟨hw, hpub, -, -, hstage⟩ := hk
  refine ⟨hw, hpub, fun _ => rfl, fun x hx => ?_, hstage⟩
  cases hx
  exact Nat.min_le_right ..

/-! ### Frames and time change no controller -/

theorem send_keeps {s : State} (h : s.ControllersLegal) (l : LinkIx) (f : TxFrame) : (s.send l f).ControllersLegal :=
  keeps_of_eq h rfl rfl

theorem notify_keeps {s : State} (h : s.ControllersLegal) (o : Origin) (r : Reason) (b : Option BankIx) :
    (s.notify o r b).ControllersLegal :=
  keeps_of_eq h rfl rfl

theorem modLink_keeps {s : State} (h : s.ControllersLegal) (l : LinkIx) (f : Link → Link) :
    (s.modLink l f).ControllersLegal :=
  keeps_of_eq h rfl rfl

theorem modLine_keeps {s : State} (h : s.ControllersLegal) (n : LineIx) (f : GpiLine → GpiLine) :
    (s.modLine n f).ControllersLegal :=
  keeps_of_eq h rfl rfl

theorem reach_keeps {s : State} (h : s.ControllersLegal) (moment : Micros) : (s.reach moment).ControllersLegal :=
  keeps_of_eq h rfl rfl

theorem after_keeps {s : State} (h : s.ControllersLegal) (dt : Micros) : (s.after dt).ControllersLegal :=
  keeps_of_eq h rfl rfl

/-! ### The schedule list -/

theorem mem_insertEntry {x e : Entry} {list : List Entry} : x ∈ insertEntry e list ↔ x = e ∨ x ∈ list := by
  induction list with
  | nil => simp [insertEntry]
  | cons y rest ih =>
    unfold insertEntry
    split
    · simp only [List.mem_cons, ih]; tauto
    · simp

theorem mem_insertEntries {x : Entry} {es list : List Entry} : x ∈ insertEntries es list ↔ x ∈ es ∨ x ∈ list := by
  induction es generalizing list with
  | nil => simp [insertEntries]
  | cons e es ih =>
    change x ∈ insertEntries es (insertEntry e list) ↔ _
    rw [ih, mem_insertEntry]
    simp only [List.mem_cons]; tauto

/-- What a request or a GPI action may insert: several entries at once only as takes, and rates in their range. -/
def LawfulInsertion (bs : List BankIx) (a : Action) : Prop := (2 ≤ bs.length → a.isTake = true) ∧ a.RateLegal

theorem lawfulInsertion_take (bs : List BankIx) {a : Action} (ha : a.isTake = true) : LawfulInsertion bs a := by
  refine ⟨fun _ => ha, ?_⟩
  cases a with
  | transSetup f => simp [Action.isTake] at ha
  | _ => trivial

theorem lawfulInsertion_one (b : BankIx) {a : Action} (ha : a.RateLegal) : LawfulInsertion [b] a :=
  ⟨fun h => by simp at h, ha⟩

theorem insertAction_keeps {s : State} (h : s.ControllersLegal) (due : FieldNo) (o : Origin) {bs : List BankIx}
    {a : Action} (ha : LawfulInsertion bs a) : (s.insertAction due o bs a).ControllersLegal := by
  refine keeps_of_schedule h rfl fun e he => ?_
  refine (mem_insertEntries.mp he).symm.imp_right fun hnew => ?_
  obtain ⟨b, -, rfl⟩ := List.mem_map.mp hnew
  refine ⟨fun hlinked => ha.1 ?_, ha.2⟩
  by_contra hlen
  simp [newEntry, hlen] at hlinked

/-- The staging record of a bank emptied. -/
theorem unstage_keeps {s t : State} (h : s.ControllersLegal) {b : BankIx}
    (hb : t.banks = upd s.banks b fun k => { k with staging := none }) (hs : ∀ e ∈ t.schedule, e ∈ s.schedule) :
    t.ControllersLegal :=
  keeps_of h (fun c hc => by rw [State.bank, hb]; exact upd_legal unstaged_legal c hc) fun e he => .inl (hs e he)

theorem dropRecall_keeps {s : State} (h : s.ControllersLegal) (b : BankIx) : (s.dropRecall b).ControllersLegal :=
  unstage_keeps h rfl fun _ he => List.mem_of_mem_filter he

theorem supersede_keeps {s : State} (h : s.ControllersLegal) (b : BankIx) : (s.supersede b).ControllersLegal := by
  unfold State.supersede
  split
  · exact notify_keeps (dropRecall_keeps h b) ..
  · exact h

theorem insertRecall_keeps {s : State} (h : s.ControllersLegal) (due : FieldNo) (o : Origin) (b : BankIx)
    (register : Nat) : (s.insertRecall due o b register).ControllersLegal := by
  have hone : LawfulInsertion [b] (.recallEffect register false) := lawfulInsertion_one b trivial
  exact keeps_of_eq (insertAction_keeps (supersede_keeps h b) due o hone) rfl rfl

/-! ### The sweep -/

theorem endSweep_keeps {s : State} (h : s.ControllersLegal) (n : FieldNo) : (s.endSweep n).ControllersLegal := by
  refine keeps_of_banks h (fun b hb => ?_) rfl
  simp only [State.endSweep, State.bank, pick_tab] at hb ⊢
  split
  · exact hb
  · exact hb

theorem settleSweep_keeps {s : State} (h : s.ControllersLegal) : s.settleSweep.ControllersLegal := by
  unfold State.settleSweep
  split
  · split
    · exact endSweep_keeps h _
    · exact h
  · exact h

theorem startSweep_keeps {s : State} (h : s.ControllersLegal) (n : FieldNo) : (s.startSweep n).ControllersLegal := by
  refine settleSweep_keeps (keeps_of_schedule h rfl fun e he => .inr ?_)
  obtain ⟨x, hx, rfl⟩ := List.mem_map.mp he
  have hlawful := entry_lawful h hx
  exact hlawful

/-- An action judged go ahead fits its bank (R24, R25, R33). -/
theorem performable_of_judged {s : State} {b : BankIx} (h : (s.bank b).Legal) {a : Action} {n : FieldNo} {count : Nat}
    {note : Option Reason} (hj : s.judge b a n = .goAhead count note) : Performable (s.working b) a := by
  cases a with
  | auto =>
    by_cases hp : (s.working b).phase = .idle
    · intro hlayers
      simp [State.judge, BankRecord.judgeAuto, hp, BankRecord.judgeTake, hlayers] at hj
    · exact (legal_running h.1 hp).2.2
  | layers set =>
    by_contra hp
    have hp : (s.working b).phase ≠ .idle := hp
    have hrun : (s.working b).isRunning = true := by simpa [BankRecord.isRunning] using hp
    simp [State.judge, BankRecord.judgeLayers, hrun] at hj
  | _ => trivial

theorem perform_keeps {s : State} (h : s.ControllersLegal) {b : BankIx} {a : Action} (ha : a.RateLegal)
    (hfit : Performable (s.working b) a) (n : FieldNo) : (s.perform b a n).ControllersLegal :=
  keeps_of_banks h (upd_legal fun hk => perform_legal hk ha hfit ..) rfl

theorem applyEntry_keeps {s : State} (h : s.ControllersLegal) (w : Sweep) {e : Entry} (he : e.action.RateLegal)
    (hfit : Performable (s.working e.bank) e.action) (count : Nat) (note : Option Reason) :
    (s.applyEntry w e count note).ControllersLegal := by
  have hcounted : State.ControllersLegal { s with sweep := some { w with used := w.used + count } } :=
    keeps_of_eq h rfl rfl
  have hperformed := perform_keeps hcounted he hfit w.target
  cases note with
  | none => exact hperformed
  | some reason => exact notify_keeps hperformed ..

theorem refuseEntry_keeps {s : State} (h : s.ControllersLegal) (e : Entry) (reason : Reason) :
    (s.refuseEntry e reason).ControllersLegal := by
  unfold State.refuseEntry
  refine notify_keeps ?_ ..
  split
  · exact unstage_keeps h rfl fun _ he => he
  · exact h

theorem deferBank_keeps {s : State} (h : s.ControllersLegal) (w : Sweep) (b : BankIx) :
    (s.deferBank w b).ControllersLegal :=
  keeps_of_banks h (upd_legal fun hk => working_legal hk hk.1 id) rfl

/-- An entry is applied only on the judgement that it may go ahead (R77). -/
theorem judge_of_applied {s : State} {w : Sweep} {e : Entry} {count : Nat} {note : Option Reason}
    (h : s.outcomeOf w e = .applied count note) : s.judge e.bank e.action w.target = .goAhead count note := by
  unfold State.outcomeOf at h
  split at h
  · cases h
  split at h
  · cases h
  split at h
  · cases h
  split at h
  · cases h
  · cases h
  · rename_i hj
    split at h
    · cases h
    · cases h
      exact hj

theorem dealEntry_keeps {s : State} (h : s.ControllersLegal) (w : Sweep) {e : Entry} {left rest : List Entry}
    (hleft : ∀ x ∈ left, x ∈ s.schedule) (hrest : ∀ x ∈ rest, x ∈ s.schedule) (he : e ∈ s.schedule) :
    (s.dealEntry w e left rest).ControllersLegal := by
  have hcut : State.ControllersLegal { s with schedule := left ++ rest } :=
    keeps_of_schedule h rfl fun x hx => .inl ((List.mem_append.mp hx).elim (hleft x) (hrest x))
  unfold State.dealEntry
  split
  · apply deferBank_keeps
    refine keeps_of_schedule h rfl fun x hx => ?_
    rcases List.mem_append.mp hx with hx | hx
    · exact .inl (hleft x hx)
    · rcases List.mem_cons.mp hx with rfl | hx
      · have hlawful := entry_lawful h he
        exact .inr hlawful
      · exact .inl (hrest x hx)
  · exact refuseEntry_keeps hcut ..
  · rename_i hout
    exact applyEntry_keeps hcut w (entry_lawful h he).2
      (performable_of_judged (bank_legal h _) (judge_of_applied hout)) ..

/-! ### A linked set (R83) -/

theorem autoStep_layers (r : BankRecord) (n : FieldNo) (dwell : Nat) : (r.autoStep n dwell).layers = r.layers := by
  obtain ⟨-, hstep⟩ | ⟨-, hstep⟩ := autoStep_cases r n dwell <;> rw [hstep] <;> rfl

theorem auto_layers (k : Bank) (n : FieldNo) (dwell : Nat) : (k.auto n dwell).working.layers = k.working.layers := by
  cases hp : k.working.phase with
  | idle => simp only [Bank.auto, hp, autoStep_layers]
  | auto => simp only [Bank.auto, hp]
  | lever | paused => simp only [Bank.auto, hp]

theorem hold_layers (r : BankRecord) : r.hold.layers = r.layers := by
  unfold BankRecord.hold
  split <;> rfl

/-- A take changes no layer set. -/
theorem perform_take_layers {a : Action} (ha : a.isTake = true) (k : Bank) (n : FieldNo) (dwell prepare : Nat) :
    (k.perform a n dwell prepare).working.layers = k.working.layers := by
  cases a with
  | cut => rfl
  | auto => exact auto_layers k n dwell
  | hold => exact hold_layers k.working
  | _ => simp [Action.isTake] at ha

/-- A member of a linked set is a take, and if judged go ahead fits its bank. -/
def MemberFits (s : State) (m : Entry × Judgement) : Prop :=
  m.1.action.isTake = true ∧
    ∀ count note, m.2 = .goAhead count note → Performable (s.working m.1.bank) m.1.action

theorem performable_take {r q : BankRecord} {a : Action} (ha : a.isTake = true) (hlayers : q.layers = r.layers)
    (h : Performable r a) : Performable q a := by
  cases a with
  | auto => exact fun hq => h (hlayers ▸ hq)
  | layers set => simp [Action.isTake] at ha
  | _ => trivial

theorem refuseEntry_layers (s : State) (e : Entry) (reason : Reason) (b : BankIx) :
    ((s.refuseEntry e reason).working b).layers = (s.working b).layers := by
  unfold State.refuseEntry
  split
  · simp only [State.working, State.bank, State.notify_banks, pick_upd]
    split
    · rename_i hb; rw [hb]
    · rfl
  · rfl

theorem applyEntry_layers (s : State) (w : Sweep) {e : Entry} (he : e.action.isTake = true) (count : Nat)
    (note : Option Reason) (b : BankIx) :
    ((s.applyEntry w e count note).working b).layers = (s.working b).layers := by
  have hbanks : (s.applyEntry w e count note).banks =
      upd s.banks e.bank fun k => k.perform e.action w.target (s.dwellFields e.bank) s.prepareFields := by
    cases note <;> rfl
  simp only [State.working, State.bank, hbanks, pick_upd]
  split
  · rename_i hb; rw [hb, perform_take_layers he]
  · rfl

/-- Dealing with a member of a linked set keeps the controllers legal and changes no layer set (R83). -/
theorem dealMember_keeps {s : State} (h : s.ControllersLegal) (w : Sweep) {m : Entry × Judgement}
    (hm : MemberFits s m) :
    (s.dealMember w m.1 m.2).ControllersLegal ∧
      ∀ b, ((s.dealMember w m.1 m.2).working b).layers = (s.working b).layers := by
  obtain ⟨e, judged⟩ := m
  obtain ⟨htake, hfit⟩ := hm
  cases judged with
  | refuse reason => exact ⟨refuseEntry_keeps h e reason, refuseEntry_layers s e reason⟩
  | holdBack => exact ⟨h, fun _ => rfl⟩
  | goAhead count note =>
    have hrate := (lawfulInsertion_take [] htake).2
    exact ⟨applyEntry_keeps h w hrate (hfit count note rfl) .., applyEntry_layers s w htake count note⟩

/-- The members of a linked set dealt with one after another: each fits its bank until its turn (R83). -/
theorem dealMembers_keeps (w : Sweep) (ms : List (Entry × Judgement)) {s : State} (h : s.ControllersLegal)
    (hms : ∀ m ∈ ms, MemberFits s m) :
    (ms.foldl (fun t m => t.dealMember w m.1 m.2) s).ControllersLegal := by
  induction ms generalizing s with
  | nil => exact h
  | cons m ms ih =>
    obtain ⟨hfirst, hrest⟩ := List.forall_mem_cons.mp hms
    obtain ⟨hkept, hlayers⟩ := dealMember_keeps h w hfirst
    refine ih hkept fun x hx => ⟨(hrest x hx).1, fun count note hj => ?_⟩
    exact performable_take (hrest x hx).1 (hlayers _) ((hrest x hx).2 count note hj)

theorem refuseEntries_keeps (es : List Entry) (reason : Reason) {s : State} (h : s.ControllersLegal) :
    (es.foldl (fun t e => t.refuseEntry e reason) s).ControllersLegal := by
  induction es generalizing s with
  | nil => exact h
  | cons e es ih => exact ih (refuseEntry_keeps h e reason)

theorem dealSet_keeps {s : State} (h : s.ControllersLegal) (w : Sweep) {members left rest : List Entry}
    (hleft : ∀ x ∈ left, x ∈ s.schedule) (hrest : ∀ x ∈ rest, x ∈ s.schedule)
    (hmembers : ∀ e ∈ members, e ∈ s.schedule ∧ e.linked.isSome = true) :
    (s.dealSet w members left rest).ControllersLegal := by
  have hcut : State.ControllersLegal { s with schedule := left ++ rest } :=
    keeps_of_schedule h rfl fun x hx => .inl ((List.mem_append.mp hx).elim (hleft x) (hrest x))
  unfold State.dealSet
  split
  · exact refuseEntries_keeps members .busy hcut
  split
  · refine keeps_of h (fun b hb => ?_) fun x hx => ?_
    · simp only [State.bank, pick_tab] at hb ⊢
      split
      · exact working_legal hb hb.1 id
      · exact hb
    · rcases List.mem_append.mp hx with hx | hx
      · rcases List.mem_append.mp hx with hx | hx
        · exact .inl (hleft x hx)
        · obtain ⟨e, he, rfl⟩ := List.mem_map.mp hx
          have hlawful := entry_lawful h (hmembers e he).1
          exact .inr hlawful
      · exact .inl (hrest x hx)
  · refine dealMembers_keeps w _ hcut fun m hm => ?_
    obtain ⟨e, he, rfl⟩ := List.mem_map.mp hm
    obtain ⟨hmem, hlinked⟩ := hmembers e he
    exact ⟨(entry_lawful h hmem).1 hlinked, fun count note hj => performable_of_judged (bank_legal h _) hj⟩

/-! ### The field -/

theorem fieldStart_keeps {s : State} (h : s.ControllersLegal) : s.fieldStart.ControllersLegal := by
  have hraised : State.ControllersLegal { s with ref := { s.ref with counter := s.ref.counter + 1 } } :=
    keeps_of_eq h rfl rfl
  exact startSweep_keeps (setClaims_keeps hraised _) _

theorem synthetic_keeps {s : State} (h : s.ControllersLegal) : s.synthetic.ControllersLegal :=
  fieldStart_keeps (keeps_of_eq h rfl rfl)

theorem pulse_keeps {s : State} (h : s.ControllersLegal) : s.pulse.ControllersLegal := by
  unfold State.pulse
  dsimp only
  split
  · exact keeps_of_eq h rfl rfl
  split
  · exact fieldStart_keeps (keeps_of_eq h rfl rfl)
  split
  · exact fieldStart_keeps (keeps_of_eq h rfl rfl)
  · exact keeps_of_eq h rfl rfl

theorem publishBank_keeps {s : State} (h : s.ControllersLegal) (b : BankIx) (n : FieldNo) :
    (s.publishBank b n).ControllersLegal :=
  keeps_of_banks h (upd_legal fun _ => publish_legal (bank_legal h b) ..) rfl

theorem gather_keeps {s : State} (h : s.ControllersLegal) (n : FieldNo) (b : BankIx) :
    (s.gather n b).ControllersLegal := by
  unfold State.gather
  dsimp only
  split
  · exact keeps_of_eq h rfl rfl
  · exact keeps_of_eq h rfl rfl

/-! ### The Memory Engine -/

/-- A record that passes its check has its rate clamped (R68). -/
theorem parseEffect_rate {strapHigh : Bool} {record : List Byte} {e : Effect}
    (h : parseEffect strapHigh record = some e) : 1 ≤ e.rate ∧ e.rate ≤ 999 := by
  unfold parseEffect at h
  split at h
  · split at h
    · split at h
      · cases h
        simp only [clampRate]
        omega
      · cases h
    · cases h
  · cases h

theorem recordRead_rate {strapHigh : Bool} {crc : BitVec 32} {buffer : List Byte} {e : Effect}
    (h : recordRead strapHigh crc buffer = .staged e) : 1 ≤ e.rate ∧ e.rate ≤ 999 := by
  unfold recordRead at h
  split at h
  · cases h
  · split at h
    · rename_i hp
      cases h
      exact parseEffect_rate hp
    · cases h

/-- A record comes to staging through the check stage alone (R165, R166). -/
theorem advance_rate {strapHigh : Bool} {access : Access} {data : Byte} {stage : Stage} {e : Effect}
    (h : advance strapHigh access data stage = .staged e) : 1 ≤ e.rate ∧ e.rate ≤ 999 := by
  cases stage with
  | directory got =>
    simp only [advance, directoryRead] at h
    repeat' split at h
    all_goals cases h
  | chain start length crc read got =>
    simp only [advance, descriptorRead] at h
    repeat' split at h
    all_goals cases h
  | fragments length crc read buffer =>
    simp only [advance] at h
    split at h
    · cases h
    · exact recordRead_rate h
  | writing rest =>
    simp only [advance] at h
    split at h <;> cases h
  | loading got =>
    simp only [advance, blockRead] at h
    repeat' split at h
    all_goals cases h

theorem loadItem_keeps {s : State} (h : s.ControllersLegal) (entry : Nat × BitVec 16) :
    (s.loadItem entry).ControllersLegal := by
  unfold State.loadItem
  split
  · split
    · exact keeps_of_eq h rfl rfl
    · exact h
  · exact h

theorem loadItems_keeps (entries : List (Nat × BitVec 16)) {s : State} (h : s.ControllersLegal) :
    (entries.foldl State.loadItem s).ControllersLegal := by
  induction entries generalizing s with
  | nil => exact h
  | cons entry entries ih => exact ih (loadItem_keeps h entry)

theorem startUp_keeps {s : State} (h : s.ControllersLegal) (outcome : Option (List (Nat × BitVec 16))) :
    (s.startUp outcome).ControllersLegal := by
  cases outcome with
  | none => exact keeps_of_eq h rfl rfl
  | some entries => exact keeps_of_eq (loadItems_keeps entries h) rfl rfl

theorem finishJob_keeps {s : State} (h : s.ControllersLegal) : s.finishJob.ControllersLegal :=
  keeps_of_eq h rfl rfl

theorem drained_keeps {s : State} (h : s.ControllersLegal) : s.drained.ControllersLegal :=
  keeps_of_eq h rfl rfl

theorem portIdle_keeps {s : State} (h : s.ControllersLegal) : s.portIdle.ControllersLegal :=
  keeps_of_eq h rfl rfl

theorem recallFailed_keeps {s : State} (h : s.ControllersLegal) (b : BankIx) (o : Origin) (reason : Reason) :
    (s.recallFailed b o reason).ControllersLegal := by
  apply notify_keeps
  exact keeps_of_schedule h rfl fun _ he => .inl (List.mem_of_mem_filter he)

theorem jobFailed_keeps {s : State} (h : s.ControllersLegal) (reason : Reason) :
    (s.jobFailed reason).ControllersLegal := by
  unfold State.jobFailed
  split
  · exact recallFailed_keeps h ..
  · exact send_keeps h ..
  · exact send_keeps h ..
  · exact startUp_keeps h _
  · exact h

theorem jobWritten_keeps {s : State} (h : s.ControllersLegal) : s.jobWritten.ControllersLegal := by
  unfold State.jobWritten
  split
  · exact send_keeps h ..
  · exact keeps_of_eq h rfl rfl
  · exact h

/-- A recall marked STAGED is lawful as it was. -/
theorem markStaged_lawful (b : BankIx) {e : Entry} (h : LawfulEntry e) : LawfulEntry (markStaged b e) := by
  unfold markStaged
  split
  · rename_i r staged ha
    split
    · have hunlinked : e.linked.isSome ≠ true := fun hl => by simpa [ha, Action.isTake] using h.1 hl
      exact ⟨fun hl => absurd hl hunlinked, trivial⟩
    · exact h
  · exact h

theorem recallStaged_keeps {s : State} (h : s.ControllersLegal) (b : BankIx) {e : Effect}
    (he : 1 ≤ e.rate ∧ e.rate ≤ 999) : (s.recallStaged b e).ControllersLegal := by
  refine keeps_of h (upd_legal fun hk => ?_) fun x hx => ?_
  · obtain ⟨hw, hpub, hread, hpos, -⟩ := hk
    exact ⟨hw, hpub, hread, hpos, fun x hx => by cases hx; exact he⟩
  · obtain ⟨y, hy, rfl⟩ := List.mem_map.mp hx
    exact .inr (markStaged_lawful b (entry_lawful h hy))

theorem jobStaged_keeps {s : State} (h : s.ControllersLegal) {e : Effect} (he : 1 ≤ e.rate ∧ e.rate ≤ 999) :
    (s.jobStaged e).ControllersLegal := by
  unfold State.jobStaged
  split
  · exact recallStaged_keeps h _ he
  · exact h

theorem carryOn_keeps {s : State} (h : s.ControllersLegal) {p : Progress}
    (hp : ∀ e, p = .staged e → 1 ≤ e.rate ∧ e.rate ≤ 999) : (s.carryOn p).ControllersLegal := by
  cases p with
  | readOn stage a => exact keeps_of_eq h rfl rfl
  | writeOn writes => exact keeps_of_eq h rfl rfl
  | failed reason => exact finishJob_keeps (jobFailed_keeps h reason)
  | staged e => exact finishJob_keeps (jobStaged_keeps h (hp e rfl))
  | written => exact finishJob_keeps (jobWritten_keeps h)
  | loaded entries => exact finishJob_keeps (startUp_keeps h entries)

theorem ready_keeps {s : State} (h : s.ControllersLegal) (data : Byte) : (s.ready data).ControllersLegal := by
  unfold State.ready
  split
  · exact h
  · exact drained_keeps h
  · exact carryOn_keeps (portIdle_keeps h) fun e he => advance_rate he

theorem expired_keeps {s : State} (h : s.ControllersLegal) : s.expired.ControllersLegal := by
  unfold State.expired
  split
  · exact h
  · exact drained_keeps (reach_keeps h _)
  · exact finishJob_keeps (jobFailed_keeps (portIdle_keeps (reach_keeps h _)) _)

theorem readyIn_keeps {s : State} (h : s.ControllersLegal) (data : Byte) (dt : Micros) :
    (s.readyIn data dt).ControllersLegal := by
  unfold State.readyIn
  split
  · exact reach_keeps (expired_keeps h) _
  · exact ready_keeps (after_keeps h dt) data

end Sys2Proof.TransitionController
end

section
/-! The controllers stay legal (R19, R52) under every served request and under the GPI lines. -/

open Sys2Proof Sys2Proof.Machine

namespace Sys2Proof.TransitionController

/-! ### Requests -/

/-- With every bank at its defaults and an empty list, as both resets leave them, the controllers are legal (R15). -/
theorem defaults_legal {s : State} (hb : s.banks = Vector.replicate 4 Bank.default) (hs : s.schedule = []) :
    s.ControllersLegal := by
  have hdefault : BankRecord.default.Legal := legal_of_idle rfl (by decide) ⟨rfl, rfl, .inl rfl⟩
  refine (controllersLegal_iff s).mpr ⟨fun b => ?_, by simp [hs]⟩
  rw [State.bank, hb, pick_replicate]
  exact ⟨hdefault, hdefault, by decide, by simp [Bank.default], by simp [Bank.default]⟩

/-- A plan that passes its value tests may be inserted. -/
def LawfulPlan (plan : Except Reason Plan) : Prop := ∀ p, plan = .ok p → LawfulInsertion p.banks p.action

/-- A chain of examinations succeeds only if its first step does. -/
theorem bind_eq_ok {ε α β : Type} {x : Except ε α} {f : α → Except ε β} {y : β} (h : (x >>= f) = .ok y) :
    ∃ a, x = .ok a ∧ f a = .ok y := by
  cases x with
  | error e => cases h
  | ok a => exact ⟨a, rfl, h⟩

theorem planMask_lawful (s : State) (mask : Byte) {a : Action} (ha : a.isTake = true) :
    LawfulPlan (s.planMask mask a) := by
  intro p hp
  obtain ⟨bs, -, hp⟩ := bind_eq_ok hp
  cases hp
  exact lawfulInsertion_take bs ha

theorem planSelect_lawful (s : State) (bank bus source : Byte) : LawfulPlan (s.planSelect bank bus source) := by
  intro p hp
  obtain ⟨b, -, hp⟩ := bind_eq_ok hp
  obtain ⟨u, -, hp⟩ := bind_eq_ok hp
  obtain ⟨c, -, hp⟩ := bind_eq_ok hp
  obtain ⟨-, -, hp⟩ := bind_eq_ok hp
  cases hp
  exact lawfulInsertion_one b trivial

theorem planKeyCut_lawful (s : State) (bank keyer onOff : Byte) : LawfulPlan (s.planKeyCut bank keyer onOff) := by
  intro p hp
  obtain ⟨b, -, hp⟩ := bind_eq_ok hp
  obtain ⟨k, -, hp⟩ := bind_eq_ok hp
  obtain ⟨on, -, hp⟩ := bind_eq_ok hp
  cases hp
  exact lawfulInsertion_one b trivial

theorem planKeySetup_lawful (s : State) (bank keyer mask fill key kind : Byte) (clip gain : Nat) (invert : Byte) :
    LawfulPlan (s.planKeySetup bank keyer mask fill key kind clip gain invert) := by
  intro p hp
  obtain ⟨b, -, hp⟩ := bind_eq_ok hp
  obtain ⟨k, -, hp⟩ := bind_eq_ok hp
  obtain ⟨-, -, hp⟩ := bind_eq_ok hp
  obtain ⟨t, -, hp⟩ := bind_eq_ok hp
  obtain ⟨i, -, hp⟩ := bind_eq_ok hp
  obtain ⟨f, -, hp⟩ := bind_eq_ok hp
  obtain ⟨y, -, hp⟩ := bind_eq_ok hp
  obtain ⟨-, -, hp⟩ := bind_eq_ok hp
  obtain ⟨-, -, hp⟩ := bind_eq_ok hp
  cases hp
  exact lawfulInsertion_one b trivial

/-- A TRANS-SETUP's rate is clamped before its entry is made (R63). -/
theorem planTransSetup_lawful (s : State) (bank mask kind : Byte) (rate : Nat)
    (pattern direction softness width colour : Byte) :
    LawfulPlan (s.planTransSetup bank mask kind rate pattern direction softness width colour) := by
  intro p hp
  obtain ⟨b, -, hp⟩ := bind_eq_ok hp
  obtain ⟨-, -, hp⟩ := bind_eq_ok hp
  obtain ⟨k, -, hp⟩ := bind_eq_ok hp
  obtain ⟨q, -, hp⟩ := bind_eq_ok hp
  obtain ⟨d, -, hp⟩ := bind_eq_ok hp
  obtain ⟨c, -, hp⟩ := bind_eq_ok hp
  cases hp
  refine lawfulInsertion_one b fun v hv => ?_
  dsimp only at hv
  split at hv
  · cases hv
    simp only [clampRate]
    omega
  · cases hv

theorem planLayers_lawful (s : State) (bank set : Byte) : LawfulPlan (s.planLayers bank set) := by
  intro p hp
  obtain ⟨b, -, hp⟩ := bind_eq_ok hp
  obtain ⟨v, -, hp⟩ := bind_eq_ok hp
  cases hp
  exact lawfulInsertion_one b trivial

section
variable {s : State} (h : s.ControllersLegal) (o : Offer)
include h

theorem takeRequest_keeps : (s.takeRequest o).ControllersLegal := keeps_of_eq h rfl rfl

theorem refuse_keeps (reason : Reason) (holder : Option LinkIx) : (s.refuse o reason holder).ControllersLegal :=
  send_keeps h ..

theorem accept_keeps (info : Accepted) : (s.accept o info).ControllersLegal := send_keeps h ..

theorem useElements_keeps (p : LinkIx) (es : List ElemIx) : (s.useElements p es).ControllersLegal :=
  setClaims_keeps h _

theorem serveScheduled_keeps {plan : Except Reason Plan} (hplan : LawfulPlan plan) (lead : Byte) :
    (s.serveScheduled o plan lead).ControllersLegal := by
  unfold State.serveScheduled
  split
  · exact refuse_keeps h ..
  · rename_i p
    split
    · exact refuse_keeps h ..
    · split
      · exact refuse_keeps h ..
      · exact settle_keeps (accept_keeps (insertAction_keeps (useElements_keeps h ..) _ _ (hplan p rfl)) o _) _

theorem serveRecall_keeps (bank register lead : Byte) : (s.serveRecall o bank register lead).ControllersLegal := by
  unfold State.serveRecall
  split
  · exact refuse_keeps h ..
  split
  · exact refuse_keeps h ..
  split
  · exact refuse_keeps h ..
  split
  · exact refuse_keeps h ..
  · exact settle_keeps (accept_keeps (insertRecall_keeps (useElements_keeps h ..) ..) o _) _

theorem serveLever_keeps (bank : Byte) (position : Nat) : (s.serveLever o bank position).ControllersLegal := by
  unfold State.serveLever
  split
  · exact refuse_keeps h ..
  split
  · exact refuse_keeps h ..
  · exact settle_keeps (writeLever_keeps (useElements_keeps h ..) ..) _

theorem serveClaim_keeps (element : Byte) : (s.serveClaim o element).ControllersLegal := by
  unfold State.serveClaim
  split
  · exact refuse_keeps h ..
  split
  · exact refuse_keeps h ..
  · exact settle_keeps (accept_keeps (setClaims_keeps h _) o _) _

theorem serveRelease_keeps (element : Byte) : (s.serveRelease o element).ControllersLegal := by
  unfold State.serveRelease
  split
  · exact refuse_keeps h ..
  split
  · exact accept_keeps (setClaims_keeps h _) o _
  · exact refuse_keeps h ..

theorem serveBreak_keeps (element : Byte) : (s.serveBreak o element).ControllersLegal := by
  unfold State.serveBreak
  split
  · exact refuse_keeps h ..
  split
  · exact refuse_keeps h ..
  split
  · exact refuse_keeps h ..
  split
  · exact refuse_keeps h ..
  split
  · exact refuse_keeps h ..
  · exact accept_keeps (setClaims_keeps h _) o _

theorem queueJob_keeps (j : Job) : (s.queueJob j).ControllersLegal := keeps_of_eq h rfl rfl

theorem serveStore_keeps (bank register : Byte) : (s.serveStore o bank register).ControllersLegal := by
  unfold State.serveStore
  split
  · exact refuse_keeps h ..
  split
  · exact refuse_keeps h ..
  split
  · exact refuse_keeps h ..
  · exact accept_keeps (queueJob_keeps h _) o _

theorem serveSave_keeps : (s.serveSave o).ControllersLegal := by
  unfold State.serveSave
  split
  · exact refuse_keeps h ..
  split
  · exact refuse_keeps h ..
  · exact settle_keeps (accept_keeps (queueJob_keeps (useElements_keeps h ..) _) o _) _

theorem cancel_keeps (l : LinkIx) (tag : Byte) : (s.cancel l tag).ControllersLegal := by
  refine keeps_of h (fun b hb => ?_) fun e he => .inl (List.mem_of_mem_filter he)
  simp only [State.cancel, State.bank, pick_tab] at hb ⊢
  split
  · exact unstaged_legal hb
  · exact hb

theorem serveCancel_keeps (tag : Byte) : (s.serveCancel o tag).ControllersLegal := by
  unfold State.serveCancel
  dsimp only
  split
  · exact refuse_keeps h ..
  · exact accept_keeps (cancel_keeps h ..) o _

theorem pruneAfter_keeps (number : Nat) : (s.pruneAfter number).ControllersLegal := by
  unfold State.pruneAfter
  split
  · exact setClaims_keeps h _
  · exact h

theorem storeItem_keeps (number : Nat) (value : BitVec 16) : (s.storeItem number value).ControllersLegal :=
  keeps_of_eq h rfl rfl

theorem serveConfig_keeps (item : Byte) (value : BitVec 16) : (s.serveConfig o item value).ControllersLegal := by
  unfold State.serveConfig
  split
  · exact refuse_keeps h ..
  split
  · exact refuse_keeps h ..
  · exact settle_keeps (accept_keeps (pruneAfter_keeps (storeItem_keeps (useElements_keeps h ..) ..) _) o _) _

theorem serveReset_keeps : (s.serveReset o).ControllersLegal := by
  unfold State.serveReset
  split
  · exact refuse_keeps h ..
  · exact accept_keeps (defaults_legal rfl rfl) o _

/-! ### Queries -/

theorem queryOf_keeps (subject : Byte) {serve : State → Offer → Byte → State}
    (hserve : ∀ t o a, t.ControllersLegal → (serve t o a).ControllersLegal) :
    (s.queryOf subject serve).ControllersLegal := by
  unfold State.queryOf
  split
  · dsimp only
    split
    · exact hserve _ _ _ (takeRequest_keeps h _)
    split
    · exact h
    · exact refuse_keeps (takeRequest_keeps h _) ..
  · exact h

theorem serveQueryBank_keeps (argument : Byte) : (s.serveQueryBank o argument).ControllersLegal := by
  unfold State.serveQueryBank
  split
  · exact refuse_keeps h ..
  · exact send_keeps h ..

theorem serveQueryClaims_keeps (argument : Byte) : (s.serveQueryClaims o argument).ControllersLegal := by
  unfold State.serveQueryClaims
  split
  · exact refuse_keeps h ..
  · exact send_keeps h ..

theorem serveQueryGpi_keeps (argument : Byte) : (s.serveQueryGpi o argument).ControllersLegal := by
  unfold State.serveQueryGpi
  split
  · exact refuse_keeps h ..
  · refine send_keeps ?_ ..
    split
    · exact keeps_of_eq h rfl rfl
    · exact h

theorem serveQueryConfig_keeps (argument : Byte) : (s.serveQueryConfig o argument).ControllersLegal := by
  unfold State.serveQueryConfig
  split
  · exact send_keeps h ..
  · exact refuse_keeps h ..

/-! ### GPI lines -/

theorem gpiTake_keeps (n : LineIx) {a : Action} (ha : a.isTake = true) : (s.gpiTake n a).ControllersLegal := by
  unfold State.gpiTake
  dsimp only
  split
  · exact h
  split
  · exact modLine_keeps h ..
  · exact insertAction_keeps h _ _ (lawfulInsertion_take _ ha)

theorem gpiRecall_keeps (n : LineIx) : (s.gpiRecall n).ControllersLegal := by
  unfold State.gpiRecall
  dsimp only
  split
  · exact h
  split
  · exact h
  split
  · exact modLine_keeps h ..
  · exact insertRecall_keeps h ..

theorem gpiAction_keeps (n : LineIx) : (s.gpiAction n).ControllersLegal := by
  unfold State.gpiAction
  split
  · exact gpiTake_keeps h n rfl
  · exact gpiTake_keeps h n rfl
  · exact gpiTake_keeps h n rfl
  · exact gpiRecall_keeps h n
  · exact h

theorem acceptEdge_keeps (n : LineIx) : (s.acceptEdge n).ControllersLegal := by
  unfold State.acceptEdge
  dsimp only
  split
  · exact gpiAction_keeps (modLine_keeps h ..) n
  · exact modLine_keeps h ..

theorem pinChange_keeps (n : LineIx) (level : Bool) : (s.pinChange n level).ControllersLegal := by
  unfold State.pinChange
  dsimp only
  split
  · exact modLine_keeps h ..
  split
  · exact modLine_keeps h ..
  split
  · exact acceptEdge_keeps (modLine_keeps h ..) n
  · exact modLine_keeps h ..

end

end Sys2Proof.TransitionController
end

section
/-! Every command keeps the controllers legal (R19, R52). -/

open Sys2Proof Sys2Proof.Machine

namespace Sys2Proof.TransitionController

/-! ### Commands -/

/-- Whatever state a command answers next, its controllers are legal. -/
def AnswersLegal (a : Answer) : Prop := ∀ t, a = .next t → t.ControllersLegal

theorem answersLegal_next {t : State} (h : t.ControllersLegal) : AnswersLegal (.next t) := by
  intro u hu
  cases hu
  exact h

theorem bytesIn_keeps (l : LinkIx) (bytes : List RxByte) (dt : Micros) {s : State} (h : s.ControllersLegal) :
    (s.bytesIn l bytes dt).ControllersLegal := by
  induction bytes generalizing s dt with
  | nil => exact after_keeps h dt
  | cons y rest ih =>
    cases rest with
    | nil => exact keeps_of_eq h rfl rfl
    | cons z rest =>
      have hbyte : (s.byteIn l y dt).ControllersLegal := keeps_of_eq h rfl rfl
      exact ih Config.linkByteTime hbyte

/-- The entries that a list still has stand in the list. -/
theorem mem_of_mem_unswept {x : Entry} {list : List Entry} (h : x ∈ unswept list) : x ∈ list :=
  (List.dropWhile_sublist _).subset h

theorem mem_of_mem_swept {x : Entry} {list : List Entry} (h : x ∈ swept list) : x ∈ list :=
  (List.takeWhile_sublist _).subset h

/-- The entry that a sweep takes next heads what it has not reached. -/
theorem mem_of_nextDue {n : FieldNo} {list : List Entry} {e : Entry} (h : nextDue n list = some e) :
    e ∈ list := by
  unfold nextDue at h
  split at h
  · rename_i x rest hx
    split at h
    · cases h
      exact mem_of_mem_unswept (hx ▸ List.mem_cons_self)
    · cases h
  · cases h

section
variable {s : State} (h : s.ControllersLegal)
include h

theorem execSweepEntry_keeps : AnswersLegal (execSweepEntry s) := by
  unfold execSweepEntry
  split
  · exact answersLegal_next h
  split
  · exact answersLegal_next (endSweep_keeps h _)
  · rename_i w _ _ e hdue
    split
    · refine answersLegal_next (settleSweep_keeps (dealEntry_keeps h w (fun x hx => mem_of_mem_swept hx)
        (fun x hx => mem_of_mem_unswept (List.mem_of_mem_tail hx)) (mem_of_nextDue hdue)))
    · exact answersLegal_next h

theorem execSweepLinkedSet_keeps : AnswersLegal (execSweepLinkedSet s) := by
  unfold execSweepLinkedSet
  split
  · exact answersLegal_next h
  split
  · exact answersLegal_next h
  split
  · exact answersLegal_next h
  · rename_i w _ _ _ _ _ set _
    refine answersLegal_next (settleSweep_keeps (dealSet_keeps h w (fun x hx => mem_of_mem_swept hx)
      (fun x hx => mem_of_mem_unswept ((List.dropWhile_sublist _).subset hx)) fun e he => ?_))
    have hlinked : e.linked = some set := by simpa using List.mem_takeWhile_imp he
    exact ⟨mem_of_mem_unswept ((List.takeWhile_sublist _).subset he), by simp [hlinked]⟩

theorem execFieldUpdate_keeps (b : BankIx) : AnswersLegal (execFieldUpdate b s) := by
  unfold execFieldUpdate
  split
  · exact answersLegal_next (gather_keeps (publishBank_keeps h ..) ..)
  · exact answersLegal_next h

theorem execLinkUp_keeps (l : LinkIx) : AnswersLegal (execLinkUp l s) := by
  unfold execLinkUp
  split
  · exact answersLegal_next (setClaims_keeps (modLink_keeps (reach_keeps h _) ..) _)
  · exact answersLegal_next h

theorem execLinkDown_keeps (l : LinkIx) : AnswersLegal (execLinkDown l s) := by
  unfold execLinkDown
  split
  · exact answersLegal_next (linkLost_keeps (modLink_keeps (reach_keeps h _) ..) _)
  · exact answersLegal_next h

theorem execGpiFilterExpiry_keeps (n : LineIx) : AnswersLegal (execGpiFilterExpiry n s) := by
  unfold execGpiFilterExpiry
  split
  · exact answersLegal_next (acceptEdge_keeps (reach_keeps h _) n)
  · exact answersLegal_next h

/-- Every command keeps the controllers legal. -/
theorem exec_keeps (i : Instr) : AnswersLegal (exec i s) := by
  cases i with
  | powerOn strapHigh => exact answersLegal_next (defaults_legal rfl rfl)
  | presentChange l asserted dt => exact answersLegal_next (keeps_of_eq h rfl rfl)
  | linkUp l => exact execLinkUp_keeps h l
  | linkDown l => exact execLinkDown_keeps h l
  | frameArrival l bytes dt => exact answersLegal_next (bytesIn_keeps l bytes dt h)
  | interbyteTimeout l =>
    simp only [exec, execInterbyteTimeout]
    split
    · exact answersLegal_next (keeps_of_eq h rfl rfl)
    · exact answersLegal_next h
  | transmitEnd l =>
    simp only [exec, execTransmitEnd]
    split
    · exact answersLegal_next (keeps_of_eq h rfl rfl)
    · exact answersLegal_next h
  | malformedFrame =>
    simp only [exec, execMalformedFrame]
    split
    · exact answersLegal_next (refuse_keeps (takeRequest_keeps h _) ..)
    · exact answersLegal_next h
  | select =>
    simp only [exec, execSelect]
    split
    · exact answersLegal_next (serveScheduled_keeps (takeRequest_keeps h _) _ (planSelect_lawful s _ _ _) _)
    · exact answersLegal_next h
  | cut =>
    simp only [exec, execCut]
    split
    · exact answersLegal_next (serveScheduled_keeps (takeRequest_keeps h _) _ (planMask_lawful s _ rfl) _)
    · exact answersLegal_next h
  | auto =>
    simp only [exec, execAuto]
    split
    · exact answersLegal_next (serveScheduled_keeps (takeRequest_keeps h _) _ (planMask_lawful s _ rfl) _)
    · exact answersLegal_next h
  | hold =>
    simp only [exec, execHold]
    split
    · exact answersLegal_next (serveScheduled_keeps (takeRequest_keeps h _) _ (planMask_lawful s _ rfl) _)
    · exact answersLegal_next h
  | lever =>
    simp only [exec, execLever]
    split
    · exact answersLegal_next (serveLever_keeps (takeRequest_keeps h _) ..)
    · exact answersLegal_next h
  | keyCut =>
    simp only [exec, execKeyCut]
    split
    · exact answersLegal_next (serveScheduled_keeps (takeRequest_keeps h _) _ (planKeyCut_lawful s _ _ _) _)
    · exact answersLegal_next h
  | keySetup =>
    simp only [exec, execKeySetup]
    split
    · exact answersLegal_next
        (serveScheduled_keeps (takeRequest_keeps h _) _ (planKeySetup_lawful s _ _ _ _ _ _ _ _ _) _)
    · exact answersLegal_next h
  | transSetup =>
    simp only [exec, execTransSetup]
    split
    · exact answersLegal_next
        (serveScheduled_keeps (takeRequest_keeps h _) _ (planTransSetup_lawful s _ _ _ _ _ _ _ _ _) _)
    · exact answersLegal_next h
  | layers =>
    simp only [exec, execLayers]
    split
    · exact answersLegal_next (serveScheduled_keeps (takeRequest_keeps h _) _ (planLayers_lawful s _ _) _)
    · exact answersLegal_next h
  | claim =>
    simp only [exec, execClaim]
    split
    · exact answersLegal_next (serveClaim_keeps (takeRequest_keeps h _) ..)
    · exact answersLegal_next h
  | release =>
    simp only [exec, execRelease]
    split
    · exact answersLegal_next (serveRelease_keeps (takeRequest_keeps h _) ..)
    · exact answersLegal_next h
  | breakLock =>
    simp only [exec, execBreakLock]
    split
    · exact answersLegal_next (serveBreak_keeps (takeRequest_keeps h _) ..)
    · exact answersLegal_next h
  | recallEffect =>
    simp only [exec, execRecall]
    split
    · exact answersLegal_next (serveRecall_keeps (takeRequest_keeps h _) ..)
    · exact answersLegal_next h
  | store =>
    simp only [exec, execStore]
    split
    · exact answersLegal_next (serveStore_keeps (takeRequest_keeps h _) ..)
    · exact answersLegal_next h
  | cancel =>
    simp only [exec, execCancel]
    split
    · exact answersLegal_next (serveCancel_keeps (takeRequest_keeps h _) ..)
    · exact answersLegal_next h
  | config =>
    simp only [exec, execConfig]
    split
    · exact answersLegal_next (serveConfig_keeps (takeRequest_keeps h _) ..)
    · exact answersLegal_next h
  | saveConfig =>
    simp only [exec, execSaveConfig]
    split
    · exact answersLegal_next (serveSave_keeps (takeRequest_keeps h _) _)
    · exact answersLegal_next h
  | reset =>
    simp only [exec, execReset]
    split
    · exact answersLegal_next (serveReset_keeps (takeRequest_keeps h _) _)
    · exact answersLegal_next h
  | queryBank => exact answersLegal_next (queryOf_keeps h _ fun t o a ht => serveQueryBank_keeps ht o a)
  | queryClaims => exact answersLegal_next (queryOf_keeps h _ fun t o a ht => serveQueryClaims_keeps ht o a)
  | querySchedule => exact answersLegal_next (queryOf_keeps h _ fun t o a ht => modLink_keeps ht ..)
  | queryLink => exact answersLegal_next (queryOf_keeps h _ fun t o a ht => send_keeps ht ..)
  | queryGpi => exact answersLegal_next (queryOf_keeps h _ fun t o a ht => serveQueryGpi_keeps ht o a)
  | queryConfig => exact answersLegal_next (queryOf_keeps h _ fun t o a ht => serveQueryConfig_keeps ht o a)
  | queryField => exact answersLegal_next (queryOf_keeps h _ fun t o a ht => send_keeps ht ..)
  | refPulse dt => exact answersLegal_next (pulse_keeps (after_keeps h dt))
  | lossDeadline =>
    refine answersLegal_next ?_
    split
    · exact synthetic_keeps h
    · exact h
  | freerunDeadline =>
    refine answersLegal_next ?_
    split
    · exact h
    · exact synthetic_keeps h
  | sweepEntry => exact execSweepEntry_keeps h
  | sweepLinkedSet => exact execSweepLinkedSet_keeps h
  | fieldUpdate b => exact execFieldUpdate_keeps h b
  | parameterRecordSent =>
    simp only [exec, execParameterRecordSent]
    split
    · exact answersLegal_next (keeps_of_eq h rfl rfl)
    · exact answersLegal_next h
  | tallyFrameSent =>
    simp only [exec, execTallyFrameSent]
    split
    · exact answersLegal_next (keeps_of_eq h rfl rfl)
    · exact answersLegal_next h
  | memoryReady data dt => exact answersLegal_next (readyIn_keeps h data dt)
  | memoryTimeout => exact answersLegal_next (expired_keeps h)
  | gpiPinChange n level dt => exact answersLegal_next (pinChange_keeps (after_keeps h dt) n level)
  | gpiFilterExpiry n => exact execGpiFilterExpiry_keeps h n
  | byteArrival l byte dt => exact answersLegal_next (keeps_of_eq h rfl rfl)

end

/-- Settles O57: each operation on banks and schedule keeps them legal, so each command does, and a step is a command
run on a state with the same banks and schedule. -/
theorem controllersStayLegal : Obligations.ControllersStayLegal := by
  intro s t h hstep
  unfold step at hstep
  split at hstep
  · exact answersLegal_next h t hstep
  · rename_i rest _
    have hrest : State.ControllersLegal { s with pending := rest } := keeps_of_eq h rfl rfl
    exact exec_keeps hrest _ t hstep

end Sys2Proof.TransitionController
end

section
/-! The actions of a bank, state by state: CUT, AUTO, HOLD, KEY-CUT and SELECT of A (R22 to R29), and the terms of the
field parameter record (R38, R57 to R62). -/

open Sys2Proof Sys2Proof.Machine

namespace Sys2Proof.TransitionController

/-! ### Marks and tests of a record -/

@[simp] theorem isRunning_iff (r : BankRecord) : r.isRunning = true ↔ r.phase ≠ .idle := by
  simp [BankRecord.isRunning]

/-- A keyer's slots are settled: its fill, and for LINEAR its key (R23). -/
theorem keyerReady_iff (n : FieldNo) (k : Keyer) :
    k.ready n = true ↔ atLeast n k.fillReady = true ∧ (k.kind = .linear → atLeast n k.keyReady = true) := by
  cases hk : k.kind <;> simp [Keyer.ready, hk]

/-- The start test slot by slot (R22). -/
theorem startTest_iff (r : BankRecord) (n : FieldNo) :
    r.startTest n = true ↔
      atLeast n r.dwellEnd = true ∧ (hasBkgd r.layers = true → atLeast n r.bReady = true) ∧
      ∀ k, hasKey r.layers k = true → (r.keyer k).onAir = false →
        atLeast n (r.keyer k).fillReady = true ∧
          ((r.keyer k).kind = .linear → atLeast n (r.keyer k).keyReady = true) := by
  simp only [BankRecord.startTest, Bool.and_eq_true, List.all_eq_true, mem_indices, forall_const, and_assoc]
  refine and_congr_right' (and_congr ?_ (forall_congr' fun k => ?_))
  · cases hasBkgd r.layers <;> simp
  · rw [← keyerReady_iff]
    cases hasKey r.layers k <;> cases (r.keyer k).onAir <;> simp

/-! ### CUT (R24) -/

theorem judgeCut_eq (r : BankRecord) (n : FieldNo) :
    r.judgeCut n =
      if r.phase ≠ .idle then .goAhead 0 none
      else if r.layers = 0 then .refuse .nothing
      else if r.startTest n = true then .goAhead 0 none
      else .holdBack := by
  cases hp : r.phase with
  | idle => cases ht : r.startTest n <;> simp [BankRecord.judgeCut, hp, BankRecord.judgeTake, ht]
  | _ => simp [BankRecord.judgeCut, hp]

theorem idleLevel_not (on : Bool) : idleLevel (!on) = if on then 0 else 4096 := by cases on <;> rfl

theorem complete_keyer (r : BankRecord) (n : FieldNo) (dwell : Nat) (byLever : Bool) (k : KeyerIx) :
    (r.complete n dwell byLever).keyer k =
      if hasKey r.layers k then
        { r.keyer k with onAir := !(r.keyer k).onAir, level := if (r.keyer k).onAir then 0 else 4096 }
      else r.keyer k := by
  simp only [BankRecord.complete, BankRecord.keyer, pick_tab, idleLevel_not]
  rfl

/-- A field number at most 16 fields on has not come yet (R10). -/
theorem atLeast_fieldsOn {n : FieldNo} {k : Nat} (hlow : 1 ≤ k) (hhigh : k ≤ 16) :
    atLeast n (fieldsOn n k) = false := by
  have hdiff : (n - fieldsOn n k).toNat = 2 ^ 32 - k := by
    simp only [fieldsOn, BitVec.toNat_sub, BitVec.toNat_add, BitVec.toNat_ofNat]
    have := n.isLt
    omega
  simp only [atLeast, hdiff, Config.halfRange, decide_eq_false_iff_not]
  omega

/-- A completion holds back every take at its own field (R24, R36). -/
theorem complete_startTest (r : BankRecord) (n : FieldNo) {dwell : Nat} (hd : dwell ≤ 15) (byLever : Bool) :
    (r.complete n dwell byLever).startTest n = false := by
  have hend : atLeast n (r.complete n dwell byLever).dwellEnd = false := atLeast_fieldsOn (by omega) (by omega)
  simp [BankRecord.startTest, hend]

/-- Settles O17: the judgement case by case, and the completion field by field. -/
theorem cutCompletesTheTransition : Obligations.CutCompletesTheTransition := by
  intro s b n dwell prepare hd
  refine ⟨startTest_iff _ n, judgeCut_eq _ n, (s.working b).complete n dwell false, rfl, rfl, ?_, ?_⟩
  · exact complete_keyer _ n dwell false
  · exact complete_startTest _ n hd false

/-! ### AUTO (R25, R26) -/

theorem judgeAuto_idle {r : BankRecord} (hp : r.phase = .idle) (n : FieldNo) (marked : Bool) :
    r.judgeAuto n marked =
      if r.layers = 0 then .refuse .nothing
      else if r.startTest n = true ∧ marked = false then .goAhead 0 none
      else .holdBack := by
  cases ht : r.startTest n <;> cases marked <;> simp [BankRecord.judgeAuto, hp, BankRecord.judgeTake, ht]

theorem auto_idle {k : Bank} (hp : k.working.phase = .idle) (n : FieldNo) (dwell : Nat) :
    k.auto n dwell =
      { k with
        working := BankRecord.autoStep
          { k.working with phase := .auto, remaining := k.working.rate, engagement := .pickup } n dwell
        stepMark := true } := by
  simp only [Bank.auto, hp]

/-- The first step of a run longer than one field is at least 4 and at most half the way (R25, R51). -/
theorem firstStep_bounds {rate : Nat} (hlow : 2 ≤ rate) (hhigh : rate ≤ 999) :
    4 ≤ roundHalfUp 4096 rate ∧ roundHalfUp 4096 rate ≤ 2048 := by
  unfold roundHalfUp
  constructor
  · rw [Nat.le_div_iff_mul_le (by omega)]
    omega
  · rw [← Nat.lt_succ_iff, Nat.div_lt_iff_lt_mul (by omega)]
    omega

theorem autoStep_of_short {r : BankRecord} (n : FieldNo) (dwell : Nat)
    (h : r.progress + autoStepSize r.progress r.remaining < 4096) :
    r.autoStep n dwell = BankRecord.setLevels
      { r with progress := r.progress + autoStepSize r.progress r.remaining, remaining := r.remaining - 1 } := by
  obtain ⟨hlong, -⟩ | ⟨-, hstep⟩ := autoStep_cases r n dwell
  · omega
  · exact hstep

theorem autoStep_of_long {r : BankRecord} (n : FieldNo) (dwell : Nat)
    (h : 4096 ≤ r.progress + autoStepSize r.progress r.remaining) : r.autoStep n dwell = r.complete n dwell false := by
  obtain ⟨-, hstep⟩ | ⟨hshort, -⟩ := autoStep_cases r n dwell
  · exact hstep
  · omega

/-- The step that an AUTO takes at once at a rate above 1 (R25). -/
theorem auto_idle_runs {k : Bank} (hlegal : k.working.Legal) (hp : k.working.phase = .idle) (hrate : 2 ≤ k.working.rate)
    (n : FieldNo) (dwell : Nat) :
    (k.auto n dwell).working = BankRecord.setLevels
      { k.working with
        phase := .auto, engagement := .pickup, remaining := k.working.rate - 1
        progress := roundHalfUp 4096 k.working.rate } := by
  obtain ⟨-, -, hprogress, -, -⟩ := (legal_iff_of_idle hp).mp hlegal
  obtain ⟨-, hhalf⟩ := firstStep_bounds hrate (legal_rate hlegal).2
  have hfirst : k.working.progress + autoStepSize k.working.progress k.working.rate =
      roundHalfUp 4096 k.working.rate := by
    rw [hprogress, Nat.zero_add]; rfl
  rw [auto_idle hp, autoStep_of_short _ _ (by dsimp only; omega)]
  simp only [hfirst]

/-- At rate 1 the first step is the whole way, and completes (R25). -/
theorem auto_idle_completes {k : Bank} (hlegal : k.working.Legal) (hp : k.working.phase = .idle)
    (hrate : k.working.rate = 1) (n : FieldNo) (dwell : Nat) :
    (k.auto n dwell).working = k.working.complete n dwell false := by
  obtain ⟨-, -, hprogress, -, -⟩ := (legal_iff_of_idle hp).mp hlegal
  have hwhole : 4096 ≤ k.working.progress + autoStepSize k.working.progress k.working.rate := by
    rw [hprogress, hrate]; decide
  rw [auto_idle hp, autoStep_of_long _ _ hwhole]
  rfl

/-- Settles O18, state by state. -/
theorem autoStartsResumesOrIsADuplicate : Obligations.AutoStartsResumesOrIsADuplicate := by
  intro s b n dwell prepare hlegal
  refine ⟨fun hp => ⟨judgeAuto_idle hp n _, ?_, fun hrate => ?_, fun hrate => ?_⟩, fun hp => ⟨?_, ?_⟩, fun hp => ?_⟩
  · exact congrArg Bank.stepMark (auto_idle hp n dwell)
  · exact ⟨auto_idle_runs hlegal hp hrate n dwell, firstStep_bounds hrate (legal_rate hlegal).2⟩
  · exact auto_idle_completes hlegal hp hrate n dwell
  · simp [State.judge, BankRecord.judgeAuto, hp]
  · have hp' : (s.bank b).working.phase = .auto := hp
    simp only [Bank.perform, Bank.auto, hp']
  · rcases hp with hp | hp
    all_goals
      have hp' : (s.bank b).working.phase = _ := hp
      refine ⟨?_, ?_⟩
      · simp [State.judge, BankRecord.judgeAuto, hp]
      · simp only [Bank.perform, Bank.auto, hp']
        rfl

/-! ### HOLD (R27) -/

theorem judgeHold_ignored {r : BankRecord} (hp : r.phase ≠ .auto) : r.judgeHold = .goAhead 0 (some .ignored) := by
  unfold BankRecord.judgeHold
  split
  · contradiction
  · rfl

theorem hold_ignored {r : BankRecord} (hp : r.phase ≠ .auto) : r.hold = r := by
  unfold BankRecord.hold
  split
  · contradiction
  · rfl

/-- What moves no paused transition leaves its phase and its progress (R27). -/
def StaysPaused (r q : BankRecord) : Prop := q.phase = .paused ∧ q.progress = r.progress

theorem perform_staysPaused {k : Bank} (hp : k.working.phase = .paused) {a : Action} (hcut : a ≠ .cut)
    (hauto : a ≠ .auto) (hrecall : ∀ r st, a ≠ .recallEffect r st) (n : FieldNo) (dwell prepare : Nat) :
    StaysPaused k.working (k.perform a n dwell prepare).working := by
  cases a with
  | select bus source => cases bus <;> exact ⟨hp, rfl⟩
  | cut => exact absurd rfl hcut
  | auto => exact absurd rfl hauto
  | hold => simp [Bank.perform, BankRecord.hold, hp, StaysPaused]
  | keyCut y on =>
    simp only [Bank.perform, BankRecord.keyCut]
    split <;> exact ⟨hp, rfl⟩
  | keySetup y f => exact ⟨hp, rfl⟩
  | transSetup f => exact ⟨hp, rfl⟩
  | layers set => exact ⟨hp, rfl⟩
  | recallEffect r st => exact absurd rfl (hrecall r st)

theorem leverCleared_staysPaused {r : BankRecord} (hp : r.phase = .paused) : StaysPaused r r.leverCleared := by
  simp [BankRecord.leverCleared, hp, StaysPaused]

/-- A reading that does not pick the paused transition up: at its first, not at P; then, short of P from its side
(R45, R46). -/
def ShortOf (r : BankRecord) (v : Nat) : Prop :=
  r.engagement = .pickup ∧ v ≠ r.progress ∨ r.engagement = .pickupBelow ∧ v < r.progress ∨
    r.engagement = .pickupAbove ∧ r.progress < v

theorem engage_staysPaused {r : BankRecord} (hp : r.phase = .paused) {v : Nat} (hv : ShortOf r v) (n : FieldNo)
    (dwell : Nat) : StaysPaused r (r.engage n dwell v) := by
  have hengage : r.engage n dwell v = r.pickUp n dwell v := by simp only [BankRecord.engage, hp]
  rw [hengage]
  obtain ⟨he, hne⟩ | ⟨he, hlt⟩ | ⟨he, hlt⟩ := hv
  · obtain hlt | hlt := Nat.lt_or_gt_of_ne hne
    · simp [BankRecord.pickUp, he, hlt, StaysPaused, hp]
    · simp [BankRecord.pickUp, he, hlt, Nat.lt_asymm hlt, StaysPaused, hp]
  · simp [BankRecord.pickUp, he, Nat.not_le_of_lt hlt, StaysPaused, hp]
  · simp [BankRecord.pickUp, he, Nat.not_le_of_lt hlt, StaysPaused, hp]

theorem publish_staysPaused {k : Bank} (hp : k.working.phase = .paused)
    (hread : k.lever = none ∨ ∃ x, k.lever = some x ∧ ShortOf k.working (leverValue k.working.sense x.position))
    (n : FieldNo) (dwell : Nat) : StaysPaused k.working (k.publish n dwell).published := by
  have hstep : k.stepAuto n dwell = k.working := by simp [Bank.stepAuto, hp]
  change StaysPaused k.working ((k.stepAuto n dwell).readLever k.lever n dwell)
  rw [hstep]
  obtain hnone | ⟨x, hx, hshort⟩ := hread
  · rw [hnone]
    exact ⟨hp, rfl⟩
  · rw [hx]
    exact engage_staysPaused hp hshort n dwell

/-- Settles O19: a HOLD pauses an AUTO alone, and what stays paused is said action by action and reading by reading. -/
theorem holdPausesAnAuto : Obligations.HoldPausesAnAuto := by
  intro s b n dwell prepare
  refine ⟨fun hp => ?_, fun hp => ?_, fun hp => ⟨fun a hcut hauto hrecall => ?_, ?_⟩⟩
  · have hp' : (s.bank b).working.phase = .auto := hp
    simp [State.judge, BankRecord.judgeHold, Bank.perform, BankRecord.hold, State.working, hp']
  · have hp' : (s.bank b).working.phase ≠ .auto := hp
    exact ⟨judgeHold_ignored hp, by simp only [Bank.perform, hold_ignored hp']⟩
  · exact perform_staysPaused hp hcut hauto hrecall n dwell prepare
  · obtain ⟨hphase, hprogress⟩ := leverCleared_staysPaused hp
    exact ⟨hphase, hprogress, fun hread => publish_staysPaused hp hread n dwell⟩

/-! ### KEY-CUT (R28) -/

theorem judgeKeyCut_eq (r : BankRecord) (n : FieldNo) (k : KeyerIx) (on : Bool) :
    r.judgeKeyCut n k on =
      if hasKey r.layers k = true ∧ r.phase ≠ .idle then .refuse .busy
      else if on = true ∧ (r.keyer k).onAir = false ∧ r.keyReadyTest n k = false then .holdBack
      else .goAhead 0 none := by
  simp [BankRecord.judgeKeyCut, and_assoc]

theorem keyCut_keyer (r : BankRecord) (k : KeyerIx) (on : Bool) (j : KeyerIx) :
    (r.keyCut k on).keyer j =
      if j = k ∧ (r.keyer k).onAir ≠ on then { r.keyer k with onAir := on, level := if on then 4096 else 0 }
      else r.keyer j := by
  unfold BankRecord.keyCut
  split
  · rename_i h; simp [h]
  · rename_i h
    simp only [BankRecord.keyer, BankRecord.modKeyer, pick_upd] at h ⊢
    simp [h, idleLevel]

theorem keyCut_readyTest (r : BankRecord) (n : FieldNo) (k : KeyerIx) (on : Bool) :
    (r.keyCut k on).keyReadyTest n k = r.keyReadyTest n k := by
  simp only [BankRecord.keyReadyTest, keyCut_keyer]
  split <;> rfl

/-- Settles O20. -/
theorem keyCutTurnsOneKeyer : Obligations.KeyCutTurnsOneKeyer := by
  intro s b k on n dwell prepare
  refine ⟨keyerReady_iff n _, judgeKeyCut_eq _ n k on, (s.working b).keyCut k on, rfl, fun h => ?_, fun h => ⟨?_, ?_⟩,
    keyCut_readyTest _ n k on, fun hkey hon => ?_⟩
  · simp [BankRecord.keyCut, h]
  · simp [BankRecord.keyCut, h, BankRecord.modKeyer]
  · intro j
    simp [keyCut_keyer, h]
  · simp [complete_keyer, hkey, hon]

/-! ### SELECT of A (R29) -/

theorem judgeSelectA_eq (s : State) (b : BankIx) (c : Source) (n : FieldNo) :
    s.judge b (.select .a c) n =
      if c = (s.working b).a then .goAhead 0 none
      else if ∃ d, reentered c = some d ∧ s.inClosure d b = true then .refuse .loop
      else .goAhead 1 none := by
  by_cases hsame : c = (s.working b).a
  · simp [State.judge, State.judgeSelect, State.closesLoop, oneIf, hsame]
  · have hcloses : s.closesLoop b (s.working b).a c = true ↔ ∃ d, reentered c = some d ∧ s.inClosure d b = true := by
      cases hr : reentered c <;> simp [State.closesLoop, hsame, hr]
    simp [State.judge, State.judgeSelect, hcloses, hsame, oneIf]

/-- Settles O21. -/
theorem selectOfAIsHot : Obligations.SelectOfAIsHot := by
  intro s b c n dwell prepare
  refine ⟨judgeSelectA_eq s b c n, rfl, fun hbkgd byLever => ?_⟩
  exact if_pos hbkgd

/-! ### The field parameter record (R38, R57 to R62) -/

theorem wipeMark_eq (r : BankRecord) (k : KeyerIx) :
    r.wipeMark k = if hasKey r.layers k = true ∧ r.phase ≠ .idle ∧ r.kind = .wipe then
      (if (r.keyer k).onAir then .wipedOff else .wipedOn) else .none := by
  simp [BankRecord.wipeMark, and_assoc]

theorem mixTerm_eq (r : BankRecord) :
    r.mixTerm = if r.phase ≠ .idle ∧ r.kind = .mix ∧ hasBkgd r.layers = true then r.progress else 0 := by
  simp [BankRecord.mixTerm, and_assoc]

theorem backgroundWiped_iff (r : BankRecord) :
    r.backgroundWiped = true ↔ r.phase ≠ .idle ∧ r.kind = .wipe ∧ hasBkgd r.layers = true := by
  simp [BankRecord.backgroundWiped, and_assoc]

theorem borderBand_eq (p width : Nat) : borderBand p width = if 0 < p then 4 * width else 0 := by
  rcases Nat.eq_zero_or_pos p with hp | hp
  · simp [borderBand, hp]
  · simp [borderBand, hp, Nat.ne_of_gt hp]

theorem reverseFlag_iff (r : BankRecord) :
    r.reverseFlag = true ↔ r.direction = .reverse ∨ r.direction = .flipflop ∧ r.flip = true := by
  cases hd : r.direction <;> simp [BankRecord.reverseFlag, hd]

/-- Settles O15, term by term. -/
theorem parameterRecordCarriesItsTerms : Obligations.ParameterRecordCarriesItsTerms := by
  intro b n r
  refine ⟨mixTerm_eq r, backgroundWiped_iff r, borderBand_eq .., ?_, reverseFlag_iff r, fun k => ?_⟩
  · cases hc : r.borderColour
    · exact .inl ⟨by simp [paramRecord, hc, BorderColour.source], rfl⟩
    · exact .inr ⟨by simp [paramRecord, hc, BorderColour.source], rfl⟩
  · simp only [paramRecord, pick_tab, wipeMark_eq]
    rfl

end Sys2Proof.TransitionController
end

section
/-! The lever engagement rules, state by state (R41 to R47, R55). -/

open Sys2Proof Sys2Proof.Machine

namespace Sys2Proof.TransitionController

theorem leverMap_le (position : Nat) : leverMap position ≤ 4096 := by
  unfold leverMap
  split
  · exact Nat.zero_le _
  split
  · exact Nat.le_refl _
  · simp only [Config.whole]
    omega

theorem leverValue_eq (sense : Sense) (position : Nat) :
    leverValue sense position = if sense = .normal then leverMap position else 4096 - leverMap position := by
  cases sense <;> rfl

/-- The end that reads as the whole reads as 0 once the sense has flipped (R43). -/
theorem leverValue_flipped {sense : Sense} {position : Nat} (h : leverValue sense position = 4096) :
    leverValue sense.flipped position = 0 := by
  have hle := leverMap_le position
  cases sense <;> simp only [leverValue, Sense.flipped, Config.whole] at h ⊢ <;> omega

/-- The three outcomes of a lever that drives its bank (R44). -/
theorem follow_eq (r : BankRecord) (n : FieldNo) (dwell : Nat) {v : Nat} (hv : v ≤ 4096) :
    r.follow n dwell v =
      if v = 4096 then r.complete n dwell true
      else if v = 0 then
        BankRecord.setLevels { r with phase := .idle, progress := 0, remaining := 0, engagement := .free }
      else { r with phase := .lever, engagement := .following, remaining := 0, progress := v } := by
  have hwhole : 4096 ≤ v ↔ v = 4096 := by omega
  simp only [BankRecord.follow, Config.whole, hwhole]
  rfl

theorem engage_free {r : BankRecord} (hp : r.phase = .idle) (he : r.engagement = .free) (n : FieldNo) (dwell : Nat)
    {v : Nat} (hv : v ≤ 4096) :
    r.engage n dwell v =
      if 0 < v ∧ r.layers ≠ 0 ∧ r.startTest n = true then
        (if v = 4096 then r.complete n dwell true
         else { r with phase := .lever, engagement := .following, remaining := 0, progress := v })
      else r := by
  simp only [BankRecord.engage, hp, he, BankRecord.leverStart]
  refine if_ctx_congr Iff.rfl (fun hstart => ?_) fun _ => rfl
  rw [follow_eq r n dwell hv, if_neg (Nat.ne_of_gt hstart.1)]

theorem engage_parked {r : BankRecord} (hp : r.phase = .idle) (he : r.engagement = .parked) (n : FieldNo) (dwell : Nat)
    {v : Nat} (hv : v ≤ 4096) :
    r.engage n dwell v =
      if v = 0 then { r with engagement := .free }
      else if v = 4096 then { r with engagement := .free, sense := r.sense.flipped } else r := by
  have hwhole : 4096 ≤ v ↔ v = 4096 := by omega
  simp only [BankRecord.engage, hp, he, BankRecord.unpark, Config.whole, hwhole]

theorem engage_following {r : BankRecord} (hp : r.phase = .lever) (he : r.engagement = .following) (n : FieldNo)
    (dwell : Nat) {v : Nat} (hv : v ≤ 4096) :
    r.engage n dwell v =
      if v = 4096 then r.complete n dwell true
      else if v = 0 then
        BankRecord.setLevels { r with phase := .idle, progress := 0, remaining := 0, engagement := .free }
      else { r with progress := v, remaining := 0 } := by
  have hengage : r.engage n dwell v = r.follow n dwell v := by simp only [BankRecord.engage, hp, he, if_true]
  have hstays : { r with phase := .lever, engagement := .following, remaining := 0, progress := v } =
      { r with progress := v, remaining := 0 } := by rw [← hp, ← he]
  rw [hengage, follow_eq r n dwell hv, hstays]

/-- In AUTO and PAUSED alike the lever waits to pick the transition up (R45, R46). -/
theorem engage_awaiting {r : BankRecord} (hp : r.phase = .auto ∨ r.phase = .paused) (n : FieldNo) (dwell v : Nat) :
    r.engage n dwell v = r.pickUp n dwell v := by
  rcases hp with hp | hp <;> simp only [BankRecord.engage, hp]

theorem pickUp_side {r : BankRecord} (he : r.engagement = .pickup) (n : FieldNo) (dwell v : Nat) :
    r.pickUp n dwell v =
      if v < r.progress then { r with engagement := .pickupBelow }
      else if r.progress < v then { r with engagement := .pickupAbove }
      else { r with phase := .lever, engagement := .following, remaining := 0 } := by
  simp only [BankRecord.pickUp, he]

/-- A waiting lever that has reached P from its side drives the bank (R46). -/
theorem pickUp_reached {r : BankRecord} {v : Nat}
    (h : r.engagement = .pickupBelow ∧ r.progress ≤ v ∨ r.engagement = .pickupAbove ∧ v ≤ r.progress) (n : FieldNo)
    (dwell : Nat) : r.pickUp n dwell v = r.follow n dwell v := by
  obtain ⟨he, hv⟩ | ⟨he, hv⟩ := h <;> simp only [BankRecord.pickUp, he, hv, if_true]

/-- A waiting lever short of P from its side does nothing (R46). -/
theorem pickUp_short {r : BankRecord} {v : Nat}
    (h : r.engagement = .pickupBelow ∧ v < r.progress ∨ r.engagement = .pickupAbove ∧ r.progress < v) (n : FieldNo)
    (dwell : Nat) : r.pickUp n dwell v = r := by
  obtain ⟨he, hv⟩ | ⟨he, hv⟩ := h <;> simp only [BankRecord.pickUp, he, Nat.not_le_of_lt hv, if_false]

/-- Settles O24: one lemma for each state and engagement, and the field update as it is composed. -/
theorem leverEngagesAsItsStateCallsFor : Obligations.LeverEngagesAsItsStateCallsFor := by
  intro r n dwell v hv
  refine ⟨fun hp he => engage_free hp he n dwell hv, fun hp he => engage_parked hp he n dwell hv,
    fun position => leverValue_flipped, fun hp he => engage_following hp he n dwell hv, fun hp he => ?_,
    fun hp hside => ?_, fun hp hside => ?_, ⟨rfl, fun x => ?_⟩, fun k => ⟨_, rfl, rfl⟩⟩
  · rw [engage_awaiting hp, pickUp_side he]
  · rw [engage_awaiting hp, pickUp_reached hside, follow_eq r n dwell hv]
  · rw [engage_awaiting hp, pickUp_short hside]
  · rw [← leverValue_eq]
    rfl

end Sys2Proof.TransitionController
end

section
/-! Changes of the Claim Table: their reports, the lever registers that follow them (R40, R100, R109), and the commands
that bring them: LEVER, LINK_DOWN and a field start. -/

open Sys2Proof Sys2Proof.Machine

namespace Sys2Proof.TransitionController

/-! ### Frames that a link has still to send (R121, R122) -/

theorem place_outgoing_eq {k : Link} (hup : k.up = true) (now : Micros) (f : TxFrame) :
    (k.place now f).outgoing = k.outgoingWith f := by
  have hq := k.place_queues now f
  rw [Link.Queues, if_pos hup] at hq
  exact hq.2.1

theorem mem_place_outgoing {k : Link} (hup : k.up = true) (now : Micros) (f : TxFrame) :
    f ∈ (k.place now f).outgoing := by
  rw [place_outgoing_eq hup, Link.outgoingWith]
  split
  · rename_i h
    obtain ⟨g, hg, hr⟩ := List.any_eq_true.mp h
    have : f ∈ k.tx.map fun g => if f.replaces g then f else g := List.mem_map.mpr ⟨g, hg, by simp [hr]⟩
    simp [this]
  · simp

/-- A frame waits on until a frame that replaces it is placed (R121). -/
theorem mem_place_of_mem {k : Link} {f g : TxFrame} (hg : g ∈ k.outgoing) (hf : f.replaces g = false) (now : Micros) :
    g ∈ (k.place now f).outgoing := by
  cases hup : k.up with
  | false => rwa [Link.place_down now f k hup]
  | true =>
    rw [place_outgoing_eq hup, Link.outgoingWith]
    simp only [Link.outgoing, List.mem_append] at hg ⊢
    refine hg.imp_right (Or.imp_right fun hg => ?_)
    split
    · exact List.mem_map.mpr ⟨g, hg, by simp [hf]⟩
    · exact List.mem_append_left _ hg

theorem mem_foldl_place_of_mem {fs : List TxFrame} {k : Link} {g : TxFrame} (hg : g ∈ k.outgoing)
    (hfs : ∀ f ∈ fs, f.replaces g = false) (now : Micros) :
    g ∈ (fs.foldl (fun k f => k.place now f) k).outgoing := by
  induction fs generalizing k with
  | nil => exact hg
  | cons f fs ih =>
    obtain ⟨hf, hfs⟩ := List.forall_mem_cons.mp hfs
    exact ih (mem_place_of_mem hg hf now) hfs

/-- Of frames none of which replaces an earlier one, an UP link has every one still to send. -/
theorem mem_foldl_place {fs : List TxFrame} {k : Link} (hup : k.up = true)
    (hfs : fs.Pairwise fun f g => g.replaces f = false) (now : Micros) {f : TxFrame} (hf : f ∈ fs) :
    f ∈ (fs.foldl (fun k f => k.place now f) k).outgoing := by
  induction fs generalizing k with
  | nil => cases hf
  | cons g fs ih =>
    obtain ⟨hg, hfs⟩ := List.pairwise_cons.mp hfs
    rcases List.mem_cons.mp hf with rfl | hf
    · exact mem_foldl_place_of_mem (mem_place_outgoing hup now f) hg now
    · exact ih (by simp [hup]) hfs hf

theorem foldl_place_down {k : Link} (h : k.up = false) (now : Micros) (fs : List TxFrame) :
    fs.foldl (fun k f => k.place now f) k = k := by
  induction fs with
  | nil => rfl
  | cons f fs ih => rw [List.foldl_cons, Link.place_down now f k h, ih]

/-! ### The reports of a change of claims (R109) -/

theorem subjects_pairwise : subjects.Pairwise (· ≠ ·) := by decide

theorem elementBank_mem_subjects : ∀ e, elementBank e ∈ subjects := by decide

theorem mem_subjectElements : ∀ e, e ∈ subjectElements (elementBank e) := by decide

theorem claimReports_pairwise (before after : Vector (Option Claim) 25) :
    (claimReports before after).Pairwise fun f g => g.replaces f = false := by
  rw [claimReports, List.pairwise_map]
  refine (subjects_pairwise.filter _).imp fun hne => ?_
  simpa [TxFrame.replaces, claimReport] using hne.symm

theorem mem_claimReports {before after : Vector (Option Claim) 25} {e : ElemIx}
    (h : claimFace (pick before e) ≠ claimFace (pick after e)) :
    claimReport after (elementBank e) ∈ claimReports before after := by
  refine List.mem_map.mpr ⟨_, List.mem_filter.mpr ⟨elementBank_mem_subjects e, ?_⟩, rfl⟩
  exact List.any_eq_true.mpr ⟨e, mem_subjectElements e, by simpa using h⟩

/-- A change of age alone calls for no report (R109). -/
theorem claimReports_same {before after : Vector (Option Claim) 25}
    (h : ∀ e, claimFace (pick after e) = claimFace (pick before e)) : claimReports before after = [] := by
  have hnone : (subjects.filter fun q =>
      (subjectElements q).any fun e => claimFace (pick before e) != claimFace (pick after e)) = [] := by
    simp [h]
  rw [claimReports, hnone]
  rfl

theorem setClaims_links_same {s : State} {claims : Vector (Option Claim) 25}
    (h : ∀ e, claimFace (pick claims e) = claimFace (s.claim e)) : (s.setClaims claims).links = s.links := by
  refine table_ext fun l => ?_
  have hl := s.link_setClaims claims l
  rw [claimReports_same h] at hl
  exact hl

/-- Settles O48: the levers and the queues by the laws of `setClaims`, and every report due is among those placed. -/
theorem claimChangesAreReported : Obligations.ClaimChangesAreReported := by
  intro s claims
  refine ⟨_, rfl, rfl, s.bank_setClaims claims, s.setClaims_queues claims, fun e he l hup => ?_, setClaims_links_same⟩
  rw [State.link_setClaims]
  exact mem_foldl_place hup (claimReports_pairwise ..) s.now (mem_claimReports he.symm)

/-! ### The clearing of a lever register (R40) -/

theorem leverCleared_eq (r : BankRecord) :
    r.leverCleared = { r with
      phase := if r.phase = .lever then .paused else r.phase
      remaining := if r.phase = .lever then 0 else r.remaining
      engagement := if r.phase = .idle then .parked else .pickup } := by
  unfold BankRecord.leverCleared
  split <;> rename_i hp <;> simp [hp]

theorem leverCleared_twice (r : BankRecord) : r.leverCleared.leverCleared = r.leverCleared := by
  cases hp : r.phase <;> simp [leverCleared_eq, hp]

theorem clearLever_twice (k : Bank) : k.clearLever.clearLever = k.clearLever := by
  simp [Bank.clearLever, leverCleared_twice]

/-! ### LEVER (R101, R129) -/

theorem usedClaim_holder (p : LinkIx) (c : Option Claim) : (usedClaim p c).holder = p := by
  unfold usedClaim
  split
  · split
    · assumption
    · rfl
  · rfl

/-- Use of its own element by a link changes its age alone (R98). -/
theorem usedClaim_face {p : LinkIx} {c : Option Claim} (h : claimHolder c = some p) :
    claimFace (some (usedClaim p c)) = claimFace c := by
  obtain ⟨c, rfl, hc⟩ := Option.map_eq_some_iff.mp h
  simp [usedClaim, hc, claimFace]

theorem pick_usedClaims (p : LinkIx) (es : List ElemIx) (claims : Vector (Option Claim) 25) (e : ElemIx) :
    pick (usedClaims p es claims) e = if es.contains e then some (usedClaim p (pick claims e)) else pick claims e :=
  pick_tab ..

theorem pick_usedClaims_own (p : LinkIx) (e : ElemIx) (claims : Vector (Option Claim) 25) :
    pick (usedClaims p [e] claims) e = some (usedClaim p (pick claims e)) := by
  rw [pick_usedClaims, if_pos (by simp)]

theorem pick_usedClaims_other (p : LinkIx) {e f : ElemIx} (h : f ≠ e) (claims : Vector (Option Claim) 25) :
    pick (usedClaims p [e] claims) f = pick claims f := by
  rw [pick_usedClaims, if_neg (by simpa using h)]

theorem transElement_inj {b c : BankIx} (h : transElement c = transElement b) : c = b := by
  simp only [transElement, Fin.mk.injEq] at h
  exact Fin.ext (by omega)

theorem bankOf_number {s : State} {c : Byte} {b : BankIx} (h : s.bankOf c = .ok b) : c.toNat = b.val + 1 := by
  unfold State.bankOf at h
  split at h
  · split at h
    · cases h
      simp only
      omega
    · cases h
  · cases h

/-- A LEVER that passes its tests is served: the claim first, then the register (R101, R129). -/
theorem execLever_accepted {s : State} {o : Offer} {bank : Byte} {position : Nat} {b : BankIx} (ho : s.offer = some o)
    (hbody : o.body = .lever bank position) (hb : s.bankOf bank = .ok b) (hv : s.verdict o = none) :
    exec .lever s =
      .next (((s.takeRequest o).useElements o.link [transElement b]).writeLever o.link b position) := by
  obtain ⟨l, q, tag, body⟩ := o
  subst hbody
  obtain ⟨-, -, hup⟩ := State.offer_spec ho
  have hpass : s.elementsRefusal l [transElement b] = none := by simpa [State.verdict, hb] using hv
  have hsettled : ((((s.takeRequest ⟨l, q, tag, .lever bank position⟩).useElements l [transElement b]).writeLever
      l b position).link l).up = true :=
    (State.setClaims_up ..).trans ((State.takeRequest_up ..).trans hup)
  simp only [exec, execLever, ho, State.serveLever, State.takeRequest_bankOf, hb, State.takeRequest_elementsRefusal,
    hpass, State.settle_up _ _ hsettled]

/-- The register of the bank that a LEVER names, after its claim has been written (R39, R40). -/
theorem leverBank_after (s : State) (l : LinkIx) (b : BankIx) (position : Nat) :
    ((s.useElements l [transElement b]).writeLever l b position).bank b = { s.bank b with
      lever := some { position := min position 1023, writer := l }
      working := if claimHolder (s.claim (transElement b)) = some l then s.working b
                 else (s.working b).leverCleared } := by
  have hclaimed : (s.useElements l [transElement b]).bank b =
      if claimHolder (s.claim (transElement b)) = some l then s.bank b else (s.bank b).clearLever := by
    rw [State.useElements, State.bank_setClaims, pick_usedClaims_own]
    simp [claimHolder, usedClaim_holder]
  have hwritten : ((s.useElements l [transElement b]).writeLever l b position).bank b =
      { (s.useElements l [transElement b]).bank b with
        lever := some { position := min position 1023, writer := l } } := pick_upd_same ..
  rw [hwritten, hclaimed]
  split <;> rfl

theorem leverBank_other (s : State) (l : LinkIx) {b c : BankIx} (h : c ≠ b) (position : Nat) :
    ((s.useElements l [transElement b]).writeLever l b position).bank c = s.bank c := by
  have hwritten : ((s.useElements l [transElement b]).writeLever l b position).bank c =
      (s.useElements l [transElement b]).bank c := pick_upd_other _ h _
  rw [hwritten, State.useElements, State.bank_setClaims,
    pick_usedClaims_other l (fun he => h (transElement_inj he))]
  exact if_pos rfl

/-- Settles O5: a LEVER is served as `execLever_accepted` says, and each clause is a law of the two writes. -/
theorem acceptedLeverWritesItsRegister : Obligations.AcceptedLeverWritesItsRegister := by
  intro s o bank position b ho hbody hb hv
  refine ⟨_, execLever_accepted ho hbody hb hv, rfl, rfl, leverBank_after (s.takeRequest o) o.link b position,
    fun c hc => leverBank_other (s.takeRequest o) o.link hc position, bankOf_number hb, ?_,
    fun l => State.setClaims_queues (s.takeRequest o) _ l, fun hown => setClaims_links_same fun e => ?_⟩
  · simp only [transElement]
    omega
  · by_cases he : e = transElement b
    · rw [he, pick_usedClaims_own]
      exact usedClaim_face hown
    · rw [pick_usedClaims_other _ he]
      rfl

/-! ### LINK_DOWN (R106, R113) -/

theorem pick_orphanedClaims (l : LinkIx) (claims : Vector (Option Claim) 25) (e : ElemIx) :
    pick (orphanedClaims l claims) e = (pick claims e).bind fun c =>
      if c.holder ≠ l then some c else if c.lock then some { c with orphaned := true } else none := by
  rw [orphanedClaims, pick_tab]
  cases pick claims e with
  | none => rfl
  | some c => by_cases hc : c.holder = l <;> simp [hc]

/-- The loss of a link changes the holder of the elements it held as touches, and of no other (R106). -/
theorem orphanedClaims_holder (l : LinkIx) (claims : Vector (Option Claim) 25) (e : ElemIx) :
    claimHolder (pick claims e) = claimHolder (pick (orphanedClaims l claims) e) ↔
      ¬ ∃ c, pick claims e = some c ∧ c.holder = l ∧ c.lock = false := by
  rw [pick_orphanedClaims]
  cases pick claims e with
  | none => simp
  | some c =>
    by_cases hc : c.holder = l
    · cases hk : c.lock <;> simp [claimHolder, hc, hk]
    · simp [claimHolder, hc]

theorem bank_clearLeversOf (s : State) (l : LinkIx) (b : BankIx) :
    (s.clearLeversOf l).bank b =
      if ∃ x, (s.bank b).lever = some x ∧ x.writer = l then (s.bank b).clearLever else s.bank b := by
  have htab : (s.clearLeversOf l).bank b = match (s.bank b).lever with
      | some r => if r.writer = l then (s.bank b).clearLever else s.bank b
      | none => s.bank b := pick_tab ..
  rw [htab]
  cases (s.bank b).lever <;> simp

/-- The registers that the loss of a link clears: those it wrote, and those of the banks whose TRANS touch it held
(R40, R113). -/
theorem bank_linkLost (s : State) (l : LinkIx) (b : BankIx) :
    (s.linkLost l).bank b =
      if (∃ x, (s.bank b).lever = some x ∧ x.writer = l) ∨
          ∃ c, s.claim (transElement b) = some c ∧ c.holder = l ∧ c.lock = false then (s.bank b).clearLever
      else s.bank b := by
  have hclaims : (s.linkLost l).bank b =
      if ∃ c, s.claim (transElement b) = some c ∧ c.holder = l ∧ c.lock = false then
        ((s.clearLeversOf l).bank b).clearLever
      else (s.clearLeversOf l).bank b := by
    have hsame := orphanedClaims_holder l s.claims (transElement b)
    rw [State.linkLost, State.bank_setClaims]
    by_cases hheld : ∃ c, s.claim (transElement b) = some c ∧ c.holder = l ∧ c.lock = false
    · rw [if_pos hheld]
      exact if_neg fun h => hsame.mp h hheld
    · rw [if_neg hheld]
      exact if_pos (hsame.mpr hheld)
  rw [hclaims, bank_clearLeversOf]
  by_cases hwrote : ∃ x, (s.bank b).lever = some x ∧ x.writer = l <;>
    by_cases hheld : ∃ c, s.claim (transElement b) = some c ∧ c.holder = l ∧ c.lock = false <;>
    simp [hwrote, hheld, clearLever_twice]

theorem execLinkDown_taken {s : State} {l : LinkIx} {m : Nat} (hup : (s.link l).up = true)
    (hpresent : (s.link l).present = false) (hsince : (s.link l).since = some m) :
    exec (.linkDown l) s = .next (((s.reach (m + 10000)).modLink l Link.goDown).linkLost l) := by
  have hmoment : (s.link l).debounced false = some (m + 10000) := by
    simp [Link.debounced, hup, hpresent, hsince, Config.debounceTime]
  simp only [exec, execLinkDown, hmoment]

/-- Settles O42: what the links keep to send by the laws of `setClaims`, claims and levers by those of the loss. -/
theorem linkDownClearsQueuesLeversAndTouches : Obligations.LinkDownClearsQueuesLeversAndTouches := by
  intro s l m hup hpresent hsince
  refine ⟨_, execLinkDown_taken hup hpresent hsince, rfl, ?_, fun k hk => ?_, fun e => pick_orphanedClaims ..,
    fun b => ?_⟩
  · have hdown : ((s.reach (m + 10000)).modLink l Link.goDown).link l = (s.link l).goDown :=
      State.link_modLink_same ..
    rw [State.linkLost, State.link_setClaims, foldl_place_down]
    · exact hdown
    · exact congrArg Link.up hdown
  · have hother : ((s.reach (m + 10000)).modLink l Link.goDown).link k = s.link k := State.link_modLink_other _ hk _
    rw [← hother]
    exact State.setClaims_queues (((s.reach (m + 10000)).modLink l Link.goDown).clearLeversOf l) _ k
  · rw [bank_linkLost, Bank.clearLever, leverCleared_eq]
    rfl

end Sys2Proof.TransitionController
end

section
/-! A field start (R105, R153, R76), and the publication that resolves the tally (R142, R176). -/

open Sys2Proof Sys2Proof.Machine

namespace Sys2Proof.TransitionController

/-! ### Aging (R105) -/

theorem pick_agedClaims (aging : Nat) (claims : Vector (Option Claim) 25) (e : ElemIx) :
    pick (agedClaims aging claims) e =
      match pick claims e with
      | none => none
      | some c =>
        if c.lock = false ∧ 0 < aging ∧ aging ≤ min (c.age + 1) 65535 then none
        else some { c with age := min (c.age + 1) 65535 } := by
  rw [agedClaims, pick_tab]
  cases pick claims e with
  | none => rfl
  | some c => simp [Config.countLimit, and_assoc]

/-! ### The beginning of a sweep (R76, R84) -/

/-- The list as a new sweep finds it: no entry dealt with. -/
def unmarked (list : List Entry) : List Entry := list.map fun e => { e with dealt := false }

/-- A new sweep has reached nothing yet: its next entry is the head of the list, if that is due. -/
theorem nextDue_unmarked_isNone (n : FieldNo) (list : List Entry) :
    (nextDue n (unmarked list)).isNone = true ↔ ¬ ∃ e, list.head? = some e ∧ atLeast n e.due = true := by
  cases list with
  | nil => simp [unmarked, nextDue, unswept]
  | cons e rest =>
    cases hd : atLeast n e.due <;> simp [unmarked, nextDue, unswept, Entry.dueAt, hd]

/-- A sweep begins, and ends at once when nothing is due (R76, R84). -/
theorem startSweep_eq (s : State) (n : FieldNo) :
    s.startSweep n =
      if ∃ e, s.schedule.head? = some e ∧ atLeast n e.due = true then
        { s with
          sweep := some { target := n, used := 0, deferred := Vector.replicate 4 false }
          schedule := unmarked s.schedule }
      else State.endSweep { s with schedule := unmarked s.schedule } n := by
  have hnone := nextDue_unmarked_isNone n s.schedule
  by_cases hdue : ∃ e, s.schedule.head? = some e ∧ atLeast n e.due = true
  · rw [if_pos hdue]
    exact if_neg fun h => hnone.mp h hdue
  · rw [if_neg hdue]
    exact if_pos (hnone.mpr hdue)

theorem bank_endSweep (s : State) (n : FieldNo) (b : BankIx) :
    (s.endSweep n).bank b = if s.enabled b then { s.bank b with updateDue := some n } else s.bank b := pick_tab ..

/-- A sweep-end changes of a bank only the sweep-end it is told of (R84). -/
theorem bank_endSweep_frame (s : State) (n : FieldNo) (b : BankIx) :
    (s.endSweep n).bank b = { s.bank b with updateDue := ((s.endSweep n).bank b).updateDue } := by
  rw [bank_endSweep]
  split <;> rfl

theorem endSweep_updateDue (s : State) (n : FieldNo) (b : BankIx) :
    ((s.endSweep n).bank b).updateDue = if s.enabled b then some n else (s.bank b).updateDue := by
  rw [bank_endSweep]
  split <;> rfl

theorem setClaims_updateDue (s : State) (claims : Vector (Option Claim) 25) (b : BankIx) :
    ((s.setClaims claims).bank b).updateDue = (s.bank b).updateDue := by
  rw [State.bank_setClaims]
  split <;> rfl

/-- The state in which a field start announces its target: F raised and the claims aged (R153). -/
def agedState (s : State) : State :=
  State.setClaims { s with ref := { s.ref with counter := s.ref.counter + 1 } } (agedClaims s.claimAging s.claims)

theorem fieldStart_eq (s : State) :
    s.fieldStart =
      if ∃ e, s.schedule.head? = some e ∧ atLeast (s.ref.counter + 2) e.due = true then
        { agedState s with
          sweep := some { target := s.ref.counter + 2, used := 0, deferred := Vector.replicate 4 false }
          schedule := unmarked s.schedule }
      else State.endSweep { agedState s with schedule := unmarked s.schedule } (s.ref.counter + 2) := by
  have htarget : s.ref.counter + 1 + 1 = s.ref.counter + 2 := BitVec.add_assoc ..
  have hstart : s.fieldStart = (agedState s).startSweep (s.ref.counter + 1 + 1) := rfl
  rw [hstart, htarget, startSweep_eq]
  rfl

/-- What a field start has done to the banks before it announces its target (R40, R105). -/
theorem bank_agedState (s : State) (b : BankIx) :
    (agedState s).bank b =
      if claimHolder (s.claim (transElement b)) = claimHolder ((agedState s).claim (transElement b)) then s.bank b
      else (s.bank b).clearLever := State.bank_setClaims ..

theorem agedState_queues (s : State) (l : LinkIx) :
    (s.link l).QueuesAll s.now (claimReportsFor s.claims (agedState s).claims) ((agedState s).link l) :=
  State.setClaims_queues _ _ l

theorem agedState_updateDue (s : State) (b : BankIx) : ((agedState s).bank b).updateDue = (s.bank b).updateDue :=
  setClaims_updateDue ..

/-- Settles O35: the claims by R105, then the sweep that begins or has ended at once. -/
theorem fieldStartAgesAndAnnounces : Obligations.FieldStartAgesAndAnnounces := by
  intro s
  refine ⟨_, rfl, ?_⟩
  rw [fieldStart_eq]
  by_cases hdue : ∃ e, s.schedule.head? = some e ∧ atLeast (s.ref.counter + 2) e.due = true
  · simp only [if_pos hdue]
    exact ⟨rfl, fun e => pick_agedClaims .., agedState_queues s, fun b => ⟨_, rfl, bank_agedState s b⟩, trivial,
      agedState_updateDue s⟩
  · simp only [if_neg hdue]
    refine ⟨rfl, fun e => pick_agedClaims .., agedState_queues s,
      fun b => ⟨_, bank_endSweep_frame .., bank_agedState s b⟩, rfl, fun b => ?_⟩
    rw [← agedState_updateDue s b]
    exact endSweep_updateDue ..

/-! ### The GPI outputs (R147, R176, R180) -/

theorem modeOut_iff (mode : BitVec 16) : modeOut mode = true ↔ 32768 ≤ mode.toNat := by
  have hmsb : modeOut mode = mode.msb := (BitVec.msb_eq_getLsbD_last mode).symm
  simp [hmsb, BitVec.msb_eq_decide]

/-- The mark of the source that a number names. -/
theorem sourceMark_iff {n : Nat} (marks : Vector Bool n) (number : Nat) :
    (if h : number < n then pick marks ⟨number, h⟩ else false) = true ↔
      ∃ c : Fin n, c.val = number ∧ pick marks c = true := by
  constructor
  · intro h
    split at h
    · exact ⟨_, rfl, h⟩
    · cases h
  · rintro ⟨c, rfl, h⟩
    simpa using h

/-- The mark of the bank that a number from 1 names. -/
theorem bankMark_iff (marks : Vector Bool 4) (number : Nat) :
    (if h : 1 ≤ number ∧ number ≤ 4 then pick marks ⟨number - 1, by omega⟩ else false) = true ↔
      ∃ c : BankIx, c.val + 1 = number ∧ pick marks c = true := by
  constructor
  · intro h
    split at h
    · exact ⟨_, by simp only; omega, h⟩
    · cases h
  · rintro ⟨c, rfl, h⟩
    have hc : 1 ≤ c.val + 1 ∧ c.val + 1 ≤ 4 := ⟨by omega, c.isLt⟩
    simpa [hc] using h

/-- What the table marks for the function of an OUT mode and the low byte of its argument (R147). -/
theorem outLevel_iff (table : Option TallyTable) (mode arg : BitVec 16) :
    outLevel table mode arg = true ↔ ∃ k, table = some k ∧
      (mode.toNat % 8 = 1 ∧ (∃ c : Source, c.val = arg.toNat % 256 ∧ pick k.pgm c = true) ∨
        mode.toNat % 8 = 2 ∧ (∃ c : Source, c.val = arg.toNat % 256 ∧ pick k.pvw c = true) ∨
        mode.toNat % 8 = 3 ∧ (∃ c : BankIx, c.val + 1 = arg.toNat % 256 ∧ pick k.running c = true) ∨
        mode.toNat % 8 = 4 ∧ (∃ c : BankIx, c.val + 1 = arg.toNat % 256 ∧ pick k.done c = true)) := by
  cases table with
  | none => simp [outLevel]
  | some k =>
    simp only [outLevel, ← sourceMark_iff, ← bankMark_iff, Option.some.injEq, exists_eq_left']
    split
    · rename_i hf; simp [hf]
    · rename_i hf; simp [hf]
    · rename_i hf; simp [hf]
    · rename_i hf; simp [hf]
    · rename_i h1 h2 h3 h4
      simp only [Bool.false_eq_true, false_iff]
      rintro (⟨h, -⟩ | ⟨h, -⟩ | ⟨h, -⟩ | ⟨h, -⟩)
      exacts [h1 h, h2 h, h3 h, h4 h]

theorem drivenLevel_in {mode : BitVec 16} (h : mode.toNat < 32768) (table : Option TallyTable) (arg : BitVec 16) :
    drivenLevel table mode arg = none :=
  if_neg fun hout => Nat.not_le_of_lt h ((modeOut_iff mode).mp hout)

theorem drivenLevel_out {mode : BitVec 16} (h : 32768 ≤ mode.toNat) (table : Option TallyTable) (arg : BitVec 16) :
    drivenLevel table mode arg =
      some (if mode.getLsbD 3 then !outLevel table mode arg else outLevel table mode arg) := by
  rw [drivenLevel, if_pos ((modeOut_iff mode).mpr h)]
  cases mode.getLsbD 3 <;> simp

/-! ### The gathering of publications (R142) -/

/-- A bank is in the gathering once `b` has published for N: it is `b`, or it was in the gathering for N (R142). -/
def Joined (s : State) (b : BankIx) (n : FieldNo) (c : BankIx) : Prop :=
  c = b ∨ ∃ g, s.gathering = some g ∧ g.field = n ∧ pick g.banks c = true

theorem gathered_field (g : Option Gathering) (n : FieldNo) (b : BankIx) : (gathered g n b).field = n := by
  unfold gathered
  split
  · split
    · assumption
    · rfl
  · rfl

theorem gathered_iff (s : State) (b : BankIx) (n : FieldNo) (c : BankIx) :
    pick (gathered s.gathering n b).banks c = true ↔ Joined s b n c := by
  unfold Joined
  cases hg : s.gathering with
  | none => simp [gathered]
  | some g =>
    by_cases hn : g.field = n
    · by_cases hc : c = b <;> simp [gathered, hn, pick_upd, hc]
    · simp [gathered, hn]

/-- A gathering is whole when every enabled bank is in it (R142). -/
theorem gatheringWhole_iff (s : State) (b : BankIx) (n : FieldNo) :
    s.complete (gathered s.gathering n b) = true ↔ ∀ c, s.enabled c = true → Joined s b n c := by
  simp only [State.complete, List.all_eq_true, mem_indices, forall_const, ← gathered_iff]
  refine forall_congr' fun c => ?_
  cases s.enabled c <;> simp

/-- The publication of a bank touches nothing that the gathering goes by (R13, R48). -/
theorem updateBank_whole {s : State} {b : BankIx} {n : FieldNo} (h : ∀ c, s.enabled c = true → Joined s b n c) :
    s.updateBank b n = (s.publishBank b n).resolve n := if_pos ((gatheringWhole_iff s b n).mpr h)

theorem updateBank_partial {s : State} {b : BankIx} {n : FieldNo} (h : ∃ c, s.enabled c = true ∧ ¬ Joined s b n c) :
    s.updateBank b n = { s.publishBank b n with gathering := some (gathered s.gathering n b) } := by
  refine if_neg fun hwhole => ?_
  obtain ⟨c, hc, hout⟩ := h
  exact hout ((gatheringWhole_iff s b n).mp hwhole c hc)

theorem updateBank_publishedFor (s : State) (b : BankIx) (n : FieldNo) :
    ((s.updateBank b n).bank b).publishedFor = n := by
  have hbanks : (s.updateBank b n).banks = (s.publishBank b n).banks := by
    unfold State.updateBank State.gather
    dsimp only
    split <;> rfl
  have hbank : (s.publishBank b n).bank b = (s.bank b).publish n (s.dwellFields b) := pick_upd_same ..
  rw [State.bank, hbanks]
  exact congrArg Bank.publishedFor hbank

/-- A resolution reads nothing that resolving writes. -/
theorem resolution_resolve (s : State) (n m : FieldNo) : (s.resolve n).resolution m = s.resolution m := rfl

/-- Settles O33: the driven level by its function's mark, the publication by whether it makes the gathering whole. -/
theorem lastPublicationResolvesTheTally : Obligations.LastPublicationResolvesTheTally := by
  refine ⟨fun table mode arg => ⟨fun h => drivenLevel_in h .., fun h =>
    ⟨_, drivenLevel_out h .., outLevel_iff ..⟩⟩, fun s b n hdue => ?_⟩
  have hexec : exec (.fieldUpdate b) s = .next (s.updateBank b n) := by simp only [exec, execFieldUpdate, hdue]
  refine ⟨_, hexec, updateBank_publishedFor .., fun hwhole => ?_, fun hpartial => ?_⟩
  · rw [updateBank_whole hwhole, resolution_resolve]
    exact ⟨rfl, rfl, rfl, fun k => pick_tab ..⟩
  · rw [updateBank_partial hpartial]
    exact ⟨rfl, rfl, rfl, _, rfl, gathered_field .., gathered_iff s b n⟩

end Sys2Proof.TransitionController
end

section
/-! The output ports (R139, R146, R157): what is handed and sent, byte by byte and field by field. -/

open Sys2Proof Sys2Proof.Machine

namespace Sys2Proof.TransitionController

/-! ### Fields of a layout (R139) -/

/-- A field some bytes on. -/
def shifted (k : Nat) (f : LayoutField) : LayoutField := { f with offset := k + f.offset }

theorem valueAt_append_left {a : List Byte} {offset size : Nat} (h : offset + size ≤ a.length) (b : List Byte) :
    valueAt (a ++ b) offset size = valueAt a offset size := by
  rw [valueAt, valueAt, List.drop_append_of_le_length (by omega), List.take_append_of_le_length]
  rw [List.length_drop]
  omega

theorem valueAt_append_right (a b : List Byte) (offset size : Nat) :
    valueAt (a ++ b) (a.length + offset) size = valueAt b offset size := by
  have hdrop : (a ++ b).drop (a.length + offset) = b.drop offset := by
    rw [← List.drop_drop, List.drop_left]
  rw [valueAt, valueAt, hdrop]

theorem valueAt_single {bytes : List Byte} {i : Nat} (h : i < bytes.length) : valueAt bytes i 1 = bytes[i].toNat := by
  have hdrop : (bytes.drop i).take 1 = [bytes[i]] := by
    rw [List.drop_eq_getElem_cons h, List.take_succ_cons, List.take_zero]
  rw [valueAt, hdrop]
  exact Nat.zero_add _

theorem laidOut_append {a b : List Byte} {fs gs : List LayoutField} {m n : Nat} (ha : LaidOut a m fs)
    (hb : LaidOut b n gs) (hfs : ∀ f ∈ fs, f.offset + f.size ≤ m) :
    LaidOut (a ++ b) (m + n) (fs ++ gs.map (shifted m)) := by
  obtain ⟨hm, hholds⟩ := ha
  obtain ⟨hn, hholds'⟩ := hb
  subst hm hn
  refine ⟨List.length_append, fun f hf => ?_⟩
  rcases List.mem_append.mp hf with hf | hf
  · rw [valueAt_append_left (hfs f hf)]
    exact hholds f hf
  · obtain ⟨g, hg, rfl⟩ := List.mem_map.mp hf
    simp only [shifted, valueAt_append_right]
    exact hholds' g hg

/-- Two bytes hold the low 16 bits of what they were made of (log 20). -/
theorem twoBytes (v : Nat) : (256 * (v / 256 % 256) + v % 256) % 65536 = v % 65536 := by omega

theorem fourBytes (v : Nat) :
    (256 * (256 * (256 * (v / 16777216 % 256) + v / 65536 % 256) + v / 256 % 256) + v % 256) % 4294967296 =
      v % 4294967296 := by omega

/-! ### The field parameter record (R139, R156) -/

/-- The 20 bytes before the keyers. -/
def paramHead (p : ParamRecord) : List Byte :=
  bigEndian 4 p.field.toNat ++ bigEndian 1 (p.bank.val + 1) ++ bigEndian 1 p.a.val ++ bigEndian 1 p.b.val ++
    bigEndian 1 (p.phase.code + 4 * p.kind.code + flagBit 3 p.reverse + flagBit 4 p.wiped) ++
    bigEndian 1 p.pattern ++ bigEndian 1 p.borderColour.source ++ bigEndian 2 p.mix ++
    bigEndian 2 (p.tlo % 65536).toNat ++ bigEndian 2 p.edge ++ bigEndian 2 p.slope ++ bigEndian 2 p.border

/-- The fields of the 20 bytes before the keyers. -/
def paramHeadLayout (p : ParamRecord) : List LayoutField := p.layout.take 16

/-- The bits of the byte of codes and flags. -/
theorem paramFlags_bits (ph : Phase) (k : Kind) (r w : Bool) :
    (ph.code + 4 * k.code + flagBit 3 r + flagBit 4 w) % 4 = ph.code % 4 ∧
      (ph.code + 4 * k.code + flagBit 3 r + flagBit 4 w) % 256 / 4 % 2 = k.code % 2 ∧
      (ph.code + 4 * k.code + flagBit 3 r + flagBit 4 w) % 256 / 8 % 2 = r.toNat % 2 ∧
      (ph.code + 4 * k.code + flagBit 3 r + flagBit 4 w) % 256 / 16 % 2 = w.toNat % 2 ∧
      (ph.code + 4 * k.code + flagBit 3 r + flagBit 4 w) % 256 / 32 % 8 = 0 := by
  cases ph <;> cases k <;> cases r <;> cases w <;> decide

theorem borderColour_source (c : BorderColour) : c.source = 49 + c.code := by cases c <;> rfl

theorem paramHead_laidOut (p : ParamRecord) : LaidOut (paramHead p) 20 (paramHeadLayout p) := by
  refine ⟨by simp [paramHead], ?_⟩
  obtain ⟨hphase, hkind, hreverse, hwiped, hspare⟩ := paramFlags_bits p.phase p.kind p.reverse p.wiped
  simp only [paramHeadLayout, ParamRecord.layout, List.cons_append, List.take_succ_cons, List.take_zero,
    List.forall_mem_cons, bytesField, bitsField]
  simp [paramHead, valueAt, twoBytes, fourBytes, borderColour_source, hphase, hkind, hreverse, hwiped, hspare]

/-- The bits of a keyer's byte of codes and flags. -/
theorem keyerFlags_bits (t : KeyerType) (i : Bool) (m : WipeMark) :
    (t.code + flagBit 1 i + 4 * m.code) % 2 = t.code % 2 ∧
      (t.code + flagBit 1 i + 4 * m.code) % 256 / 2 % 2 = i.toNat % 2 ∧
      (t.code + flagBit 1 i + 4 * m.code) % 256 / 4 % 4 = m.code % 4 ∧
      (t.code + flagBit 1 i + 4 * m.code) % 256 / 16 % 16 = 0 := by
  cases t <;> cases i <;> cases m <;> decide

theorem paramKeyer_laidOut (k : ParamKeyer) : LaidOut k.bytes 9 (k.layout 0) := by
  refine ⟨by simp [ParamKeyer.bytes], ?_⟩
  obtain ⟨hkind, hinvert, hmark, hspare⟩ := keyerFlags_bits k.kind k.invert k.mark
  simp only [ParamKeyer.layout, List.forall_mem_cons, bytesField, bitsField]
  simp [ParamKeyer.bytes, valueAt, twoBytes, hkind, hinvert, hmark, hspare]

theorem paramKeyer_layout_within (k : ParamKeyer) : ∀ f ∈ k.layout 0, f.offset + f.size ≤ 9 := by
  simp [ParamKeyer.layout, bytesField, bitsField]

theorem paramHeadLayout_within (p : ParamRecord) : ∀ f ∈ paramHeadLayout p, f.offset + f.size ≤ 20 := by
  simp [paramHeadLayout, ParamRecord.layout, bytesField, bitsField]

theorem paramRecord_laidOut (p : ParamRecord) : LaidOut p.body 56 p.layout := by
  have hlast := paramKeyer_laidOut (pick p.keyers 3)
  have hthird := laidOut_append (paramKeyer_laidOut (pick p.keyers 2)) hlast (paramKeyer_layout_within _)
  have hsecond := laidOut_append (paramKeyer_laidOut (pick p.keyers 1)) hthird (paramKeyer_layout_within _)
  have hfirst := laidOut_append (paramKeyer_laidOut (pick p.keyers 0)) hsecond (paramKeyer_layout_within _)
  have hwhole := laidOut_append (paramHead_laidOut p) hfirst (paramHeadLayout_within p)
  have hbody : p.body = paramHead p ++ ((pick p.keyers 0).bytes ++ ((pick p.keyers 1).bytes ++
      ((pick p.keyers 2).bytes ++ (pick p.keyers 3).bytes))) := by
    have hindices : indices 4 = [0, 1, 2, 3] := rfl
    simp [ParamRecord.body, paramHead, hindices]
  rw [hbody]
  exact hwhole

/-! ### The tally frame (R139, R146) -/

/-- The mark of a source code as a bit, 0 for a number that is no code. -/
def markBit (marks : Vector Bool 55) (number : Nat) : Nat :=
  if h : number < 55 then (pick marks ⟨number, h⟩).toNat else 0

theorem markBit_le (marks : Vector Bool 55) (number : Nat) : markBit marks number ≤ 1 := by
  unfold markBit
  split
  · exact Bool.toNat_le _
  · exact Nat.zero_le _

theorem markBit_source (marks : Vector Bool 55) (c : Source) : markBit marks c.val = (pick marks c).toNat :=
  dif_pos c.isLt

/-- The PGM and the PVW bit of a source code. -/
def markPair (t : TallyFrame) (number : Nat) : Nat := markBit t.pgm number + 2 * markBit t.pvw number

theorem markPair_le (t : TallyFrame) (number : Nat) : markPair t number ≤ 3 := by
  have hpgm := markBit_le t.pgm number
  have hpvw := markBit_le t.pvw number
  simp only [markPair]
  omega

theorem flagBit_eq (i : Nat) (b : Bool) : flagBit i b = 2 ^ i * b.toNat := by cases b <;> simp [flagBit]

/-- A byte of a tally frame's body: the pairs of its four codes, the first the least significant. -/
theorem tallyByte_toNat (t : TallyFrame) (j : Nat) :
    (tallyByte t j).toNat =
      markPair t (4 * j) + 4 * markPair t (4 * j + 1) + 16 * markPair t (4 * j + 2) + 64 * markPair t (4 * j + 3) := by
  have hpair : ∀ i, (if h : 4 * j + i < 55 then
      flagBit (2 * i) (pick t.pgm ⟨4 * j + i, h⟩) + flagBit (2 * i + 1) (pick t.pvw ⟨4 * j + i, h⟩) else 0) =
      4 ^ i * markPair t (4 * j + i) := fun i => by
    simp only [markPair, markBit, flagBit_eq, Nat.pow_succ, Nat.pow_mul]
    split
    · simp only [Nat.reducePow]; ring
    · simp
  have hrange : List.range 4 = [0, 1, 2, 3] := rfl
  have h0 := markPair_le t (4 * j)
  have h1 := markPair_le t (4 * j + 1)
  have h2 := markPair_le t (4 * j + 2)
  have h3 := markPair_le t (4 * j + 3)
  simp only [tallyByte, hpair, hrange, List.map_cons, List.map_nil, List.sum_cons, List.sum_nil, BitVec.toNat_ofNat,
    Nat.add_zero]
  omega

theorem tallyByte_pair (t : TallyFrame) (j : Nat) {i : Nat} (hi : i < 4) :
    (tallyByte t j).toNat / 4 ^ i % 4 = markPair t (4 * j + i) := by
  have h0 := markPair_le t (4 * j)
  have h1 := markPair_le t (4 * j + 1)
  have h2 := markPair_le t (4 * j + 2)
  have h3 := markPair_le t (4 * j + 3)
  rw [tallyByte_toNat]
  obtain rfl | rfl | rfl | rfl : i = 0 ∨ i = 1 ∨ i = 2 ∨ i = 3 := by omega
  all_goals
    simp only [Nat.reducePow, Nat.add_zero]
    omega

/-- Bits 2 × i and 2 × i + 1 of a byte are the marks of the i-th of its four codes (R139). -/
theorem tallyByte_bits (t : TallyFrame) (j : Nat) {i : Nat} (hi : i < 4) :
    (tallyByte t j).toNat / 2 ^ (2 * i) % 2 = markBit t.pgm (4 * j + i) ∧
      (tallyByte t j).toNat / 2 ^ (2 * i + 1) % 2 = markBit t.pvw (4 * j + i) := by
  have hpair := tallyByte_pair t j hi
  have hpgm := markBit_le t.pgm (4 * j + i)
  rw [Nat.pow_succ, ← Nat.div_div_eq_div_mul, Nat.pow_mul]
  simp only [markPair, Nat.reducePow] at hpair ⊢
  omega

theorem tallyBody_length (t : TallyFrame) : t.body.length = 18 := by simp [TallyFrame.body]

theorem tallyBody_byte (t : TallyFrame) {j : Nat} (hj : j < 14) : valueAt t.body (4 + j) 1 = (tallyByte t j).toNat := by
  have hhead : (bigEndian 4 t.field.toNat).length = 4 := by simp
  have hright := valueAt_append_right (bigEndian 4 t.field.toNat) ((List.range 14).map (tallyByte t)) j 1
  rw [hhead] at hright
  rw [TallyFrame.body, hright, valueAt_single (by simpa using hj)]
  simp

theorem tallyBody_field (t : TallyFrame) : valueAt t.body 0 4 % 4294967296 = t.field.toNat % 4294967296 := by
  rw [TallyFrame.body, valueAt_append_left (by simp)]
  simp [valueAt, fourBytes]

theorem tallyFrame_laidOut (t : TallyFrame) : LaidOut t.body 18 t.layout := by
  refine ⟨tallyBody_length t, fun f hf => ?_⟩
  simp only [TallyFrame.layout, List.mem_cons, List.mem_flatMap, List.mem_nil_iff, or_false] at hf
  obtain rfl | rfl | ⟨c, -, hc⟩ := hf
  · simpa [bytesField] using tallyBody_field t
  · have hspare : markPair t (4 * 13 + 3) = 0 := rfl
    have hbyte := tallyBody_byte t (j := 13) (by omega)
    have hpair := tallyByte_pair t 13 (i := 3) (by omega)
    rw [hspare] at hpair
    simpa [bitsField, hbyte] using hpair
  · have hbyte := tallyBody_byte t (j := c.val / 4) (by omega)
    have hbits := tallyByte_bits t (c.val / 4) (i := c.val % 4) (by omega)
    have hcode : 4 * (c.val / 4) + c.val % 4 = c.val := Nat.div_add_mod ..
    rw [hcode, markBit_source, markBit_source] at hbits
    obtain rfl | rfl := hc
    · simp only [bitsField, hbyte, pow_one, hbits.1]
      exact (Nat.mod_eq_of_lt (Bool.toNat_lt _)).symm
    · simp only [bitsField, hbyte, pow_one, hbits.2]
      exact (Nat.mod_eq_of_lt (Bool.toNat_lt _)).symm

/-! ### What goes out on the lines (R146, R157) -/

theorem paramRecord_bytes (r : ParamRecord) : r.bytes = framed 0x5A (56 :: r.body) := by
  rw [ParamRecord.bytes, portFrame_eq_framed, (paramRecord_laidOut r).1]
  rfl

theorem tallyFrame_bytes (f : TallyFrame) : f.bytes = framed 0x5A (18 :: f.body) := by
  rw [TallyFrame.bytes, portFrame_eq_framed, tallyBody_length]
  rfl

theorem framed_length (start : Byte) (checked : List Byte) : (framed start checked).length = checked.length + 3 := by
  simp [framed]

theorem paramRecord_bytes_length (r : ParamRecord) : r.bytes.length = 60 := by
  rw [paramRecord_bytes, framed_length, List.length_cons, (paramRecord_laidOut r).1]

theorem tallyFrame_bytes_length (f : TallyFrame) : f.bytes.length = 22 := by
  rw [tallyFrame_bytes, framed_length, List.length_cons, tallyBody_length]

theorem paramPort_hand_idle {p : ParamPort} (h : p.line = none) (now : Micros) (r : ParamRecord) :
    p.hand now r = { p with line := some (r, now) } := by simp only [ParamPort.hand, h]

theorem paramPort_hand_busy {p : ParamPort} (h : p.line.isSome = true) (now : Micros) (r : ParamRecord) :
    p.hand now r = { p with waiting := p.waiting ++ [r] } := by
  obtain ⟨x, hx⟩ := Option.isSome_iff_exists.mp h
  simp only [ParamPort.hand, hx]

theorem tallyPort_hand_idle {p : TallyPort} (h : p.line = none) (now : Micros) (f : TallyFrame) :
    p.hand now f = { p with line := some (f, now) } := by simp only [TallyPort.hand, h]

theorem tallyPort_hand_busy {p : TallyPort} (h : p.line.isSome = true) (now : Micros) (f : TallyFrame) :
    p.hand now f = { p with waiting := p.waiting ++ [f] } := by
  obtain ⟨x, hx⟩ := Option.isSome_iff_exists.mp h
  simp only [TallyPort.hand, hx]

theorem paramPort_sent_eq (p : ParamPort) (now : Micros) :
    p.sent now = { line := p.waiting.head?.map fun x => (x, now), waiting := p.waiting.tail } := by
  cases hw : p.waiting <;> simp [ParamPort.sent, hw]

theorem tallyPort_sent_eq (p : TallyPort) (now : Micros) :
    p.sent now = { line := p.waiting.head?.map fun x => (x, now), waiting := p.waiting.tail } := by
  cases hw : p.waiting <;> simp [TallyPort.sent, hw]

/-- A moment that has not passed is the moment reached. -/
theorem reach_eq {s : State} {moment : Micros} (h : s.now ≤ moment) : s.reach moment = { s with now := moment } := by
  rw [State.reach, Nat.max_eq_right h]

theorem execParameterRecordSent_eq {s : State} {r : ParamRecord} {began : Micros}
    (hline : s.paramPort.line = some (r, began)) (hnow : s.now ≤ began + 60) :
    exec .parameterRecordSent s = .next { s with
      now := began + 60
      paramPort := { line := s.paramPort.waiting.head?.map fun x => (x, began + 60)
                     waiting := s.paramPort.waiting.tail } } := by
  simp only [exec, execParameterRecordSent, hline, lineTime_paramPort, paramRecord_bytes_length, reach_eq hnow,
    paramPort_sent_eq]

theorem execTallyFrameSent_eq {s : State} {f : TallyFrame} {began : Micros}
    (hline : s.tallyPort.line = some (f, began)) (hnow : s.now ≤ began + 22) :
    exec .tallyFrameSent s = .next { s with
      now := began + 22
      tallyPort := { line := s.tallyPort.waiting.head?.map fun x => (x, began + 22)
                     waiting := s.tallyPort.waiting.tail } } := by
  simp only [exec, execTallyFrameSent, hline, lineTime_tallyPort, tallyFrame_bytes_length, reach_eq hnow,
    tallyPort_sent_eq]

/-- Settles O37: the layouts by `paramRecord_laidOut` and `tallyFrame_laidOut`, the lengths and times by those of the
bytes. -/
theorem outputPortsSendInOrder : Obligations.OutputPortsSendInOrder := by
  refine ⟨fun r => ⟨rfl, ?_, r.body, paramRecord_bytes r, paramRecord_laidOut r⟩,
    fun f => ⟨rfl, ?_, f.body, tallyFrame_bytes f, tallyFrame_laidOut f⟩, rfl,
    fun p now r => ⟨fun h => paramPort_hand_idle h now r, fun h => paramPort_hand_busy h now r⟩,
    fun p now f => ⟨fun h => tallyPort_hand_idle h now f, fun h => tallyPort_hand_busy h now f⟩,
    fun s => ⟨fun r began => execParameterRecordSent_eq, fun f began => execTallyFrameSent_eq⟩⟩
  · rw [ParamRecord.onLine, length_bytesOnLine, paramRecord_bytes_length]
  · rw [TallyFrame.onLine, length_bytesOnLine, tallyFrame_bytes_length]

end Sys2Proof.TransitionController
end

section
/-! The lever mapping (R54) and the wipe terms (R58, R59). -/

open Sys2Proof Sys2Proof.Machine

namespace Sys2Proof.TransitionArithmetic

/-! ### The lever mapping (R54) -/

/-- The two end bands are the ends of the span, reached and held (R54). -/
theorem leverMap_eq (position : Nat) : leverMap position = ((min position 1014 - 8) * 4096 + 503) / 1006 := by
  unfold leverMap
  split
  · omega
  split
  · simp only [Config.whole]; omega
  · simp only [Config.whole]; omega

/-- R54's division is the rounding half up of R50. -/
theorem roundHalfUp_span (x : Nat) : roundHalfUp x 1006 = (x + 503) / 1006 := by
  simp only [roundHalfUp]
  omega

theorem leverMap_mono {position higher : Nat} (h : position ≤ higher) : leverMap position ≤ leverMap higher := by
  rw [leverMap_eq, leverMap_eq]
  refine Nat.div_le_div_right ?_
  omega

/-- A position inside the span, at its distance from the lower band (R54). -/
theorem leverMap_inside {position : Nat} (hlow : 9 ≤ position) (hhigh : position ≤ 1013) :
    leverMap position = ((position - 8) * 4096 + 503) / 1006 := by
  rw [leverMap_eq, Nat.min_eq_left (by omega)]

/-- Each count of the position is worth 4 or 5 (R54). -/
theorem leverMap_succ {position : Nat} (hlow : 8 ≤ position) (hhigh : position ≤ 1013) :
    leverMap (position + 1) = leverMap position + 4 ∨ leverMap (position + 1) = leverMap position + 5 := by
  rw [leverMap_eq, leverMap_eq]
  omega

/-- Settles O13: every clause but the last two is arithmetic on `leverMap_eq`. -/
theorem leverPositionsMapOntoProgress : Obligations.LeverPositionsMapOntoProgress := by
  refine ⟨fun L h => ?_, fun L h _ => ?_, fun L hlow hhigh => ⟨leverMap_inside hlow hhigh, ?_, ?_, ?_⟩, by decide,
    fun L M h _ => leverMap_mono h, fun L => leverMap_succ, by decide, fun r x n dwell h => ?_, fun s l b p => ?_⟩
  · rw [leverMap_eq]; omega
  · rw [leverMap_eq]; omega
  · rw [leverMap_inside hlow hhigh, roundHalfUp_span]
  · rw [leverMap_inside hlow hhigh]; omega
  · rw [leverMap_inside hlow hhigh]; omega
  · simp only [BankRecord.readLever, leverValue, h]
  · simp [State.writeLever, State.bank, clampTen]

/-! ### The wipe terms (R58, R59) -/

theorem edgeWidth_le {softness : Nat} (h : softness ≤ 255) : edgeWidth softness ≤ 1020 := by
  unfold edgeWidth
  omega

/-- The soft slope is the greatest whose product with the edge width is within 65536 (R58). -/
theorem softSlope_of_pos {softness : Nat} (hle : softness ≤ 255) (h : 0 < edgeWidth softness) :
    softSlope softness = 65536 / edgeWidth softness ∧
      65536 - edgeWidth softness + 1 ≤ edgeWidth softness * softSlope softness ∧
      edgeWidth softness * softSlope softness ≤ 65536 := by
  have hslope : softSlope softness = 65536 / edgeWidth softness := if_neg (by omega)
  rw [hslope]
  have hedge := edgeWidth_le hle
  have hlow := Nat.lt_mul_div_succ 65536 h
  rw [Nat.mul_succ] at hlow
  exact ⟨rfl, by omega, Nat.mul_div_le 65536 (edgeWidth softness)⟩

theorem lowerThreshold_mono {p q : Nat} (h : p ≤ q) (softness : Nat) :
    lowerThreshold p softness ≤ lowerThreshold q softness := by
  have hdiv := Nat.div_le_div_right (c := 4096) (Nat.mul_le_mul_right (4096 + edgeWidth softness) h)
  simp only [lowerThreshold, Config.whole]
  omega

/-- At the last position short of the whole the threshold is short by one of its own range, or by the edge (R59). -/
theorem lowerThreshold_last {softness : Nat} (h : softness ≤ 255) :
    lowerThreshold 4095 softness = if 0 < edgeWidth softness then 4094 else 4095 := by
  have hle := edgeWidth_le h
  simp only [lowerThreshold, Config.whole]
  split <;> omega

theorem lowerThreshold_range {p softness : Nat} (hp : p ≤ 4095) (h : softness ≤ 255) :
    -1020 ≤ lowerThreshold p softness ∧ lowerThreshold p softness ≤ 4095 := by
  have hle := edgeWidth_le h
  constructor
  · simp only [lowerThreshold, Config.whole]
    omega
  · refine (lowerThreshold_mono hp softness).trans ?_
    rw [lowerThreshold_last h]
    split <;> omega

/-- Settles O14: the slope by its division, the threshold by its growth and its values at the ends. -/
theorem wipeTermsFollowSoftnessAndProgress : Obligations.WipeTermsFollowSoftnessAndProgress := by
  intro softness h
  refine ⟨rfl, edgeWidth_le h, softSlope_of_pos h, fun he => if_pos he, fun P => rfl, ?_, lowerThreshold_last h, ?_,
    fun P Q hPQ => lowerThreshold_mono hPQ softness, fun P hP => lowerThreshold_range hP h, fun b n r hr => ?_⟩
  · simp [lowerThreshold]
  · simp only [lowerThreshold, Config.whole]
    omega
  · subst hr
    exact ⟨rfl, rfl, rfl⟩

end Sys2Proof.TransitionArithmetic
end

section
/-! Runs of the auto step (R51 to R53): a run ends exactly at its last step, and an AUTO at its rate. -/

open Sys2Proof Sys2Proof.Machine Sys2Proof.TransitionController

namespace Sys2Proof.TransitionArithmetic

/-! ### One step (R51, R52) -/

/-- With one field left the step is the whole way that is left (R51). -/
theorem autoStepSize_one (p : Nat) : autoStepSize p 1 = 4096 - p := by
  simp only [autoStepSize, roundHalfUp, Config.whole]
  omega

/-- With two fields or more left, and a part in 4096 for each, a step ends short of the whole (R52). -/
theorem autoStepSize_short {p left : Nat} (hleft : 2 ≤ left) (hroom : left + p ≤ 4096) :
    p + autoStepSize p left < 4096 := by
  have hsize : autoStepSize p left < 4096 - p := by
    simp only [autoStepSize, roundHalfUp, Config.whole]
    rw [Nat.div_lt_iff_lt_mul (by omega)]
    obtain ⟨x, hx⟩ : ∃ x, 4096 - p = left + x := ⟨4096 - p - left, by omega⟩
    rw [hx]
    nlinarith
  omega

/-! ### A run of steps -/

/-- Positions of a run from which every step to come has a part in 4096 of its own (R52). -/
def StepsFit (x : Nat × Nat) : Prop := 1 ≤ x.2 ∧ x.2 + x.1 ≤ 4096

theorem stepsFit_lt {x : Nat × Nat} (h : StepsFit x) : x.1 < 4096 := by
  obtain ⟨hleft, hroom⟩ := h
  omega

/-- A step to come is at least one part and at most the way that is left (R51, R52). -/
theorem stepsFit_size {x : Nat × Nat} (h : StepsFit x) :
    1 ≤ autoStepSize x.1 x.2 ∧ autoStepSize x.1 x.2 ≤ 4096 - x.1 := by
  obtain ⟨hleft, hroom⟩ := h
  obtain hone | htwo : x.2 = 1 ∨ 2 ≤ x.2 := by omega
  · rw [hone, autoStepSize_one]
    omega
  · have hshort := autoStepSize_short htwo hroom
    obtain ⟨hsize, -, -⟩ := autoStepSize_leaves_room hleft hroom hshort
    omega

/-- A step with more to come leaves the rest of the run room (R52). -/
theorem stepsFit_step {x : Nat × Nat} (h : StepsFit x) (htwo : 2 ≤ x.2) :
    StepsFit (x.1 + autoStepSize x.1 x.2, x.2 - 1) := by
  obtain ⟨hleft, hroom⟩ := h
  obtain ⟨-, -, hrest⟩ := autoStepSize_leaves_room hleft hroom (autoStepSize_short htwo hroom)
  exact ⟨by dsimp only; omega, hrest⟩

/-- Before its last step a run has all its fields still to come left, and room for each (R51, R52). -/
theorem autoRun_fits {k : Nat} {x : Nat × Nat} (h : StepsFit x) (hk : k < x.2) :
    (autoRun k x).2 = x.2 - k ∧ StepsFit (autoRun k x) := by
  induction k generalizing x with
  | zero => exact ⟨rfl, h⟩
  | succ k ih =>
    obtain ⟨hleft, hfits⟩ := ih (stepsFit_step h (by omega)) (by dsimp only; omega)
    exact ⟨hleft.trans (by dsimp only; omega), hfits⟩

/-- The last step of a run follows those before it. -/
theorem autoRun_succ (k : Nat) (x : Nat × Nat) :
    autoRun (k + 1) x =
      ((autoRun k x).1 + autoStepSize (autoRun k x).1 (autoRun k x).2, (autoRun k x).2 - 1) := by
  induction k generalizing x with
  | zero => rfl
  | succ k ih => exact ih _

/-- A run ends exactly at its last step (R51). -/
theorem autoRun_ends {x : Nat × Nat} (h : StepsFit x) : (autoRun x.2 x).1 = 4096 := by
  obtain ⟨k, hk⟩ : ∃ k, x.2 = k + 1 := ⟨x.2 - 1, by have := h.1; omega⟩
  obtain ⟨hleft, hfits⟩ := autoRun_fits h (k := k) (by omega)
  have hone : (autoRun k x).2 = 1 := by omega
  have hlt := stepsFit_lt hfits
  rw [hk, autoRun_succ, hone, autoStepSize_one]
  dsimp only
  omega

/-- R recomputed from P is the ceiling of the rate's share of the way left, at least 1 and at most the rate (R53). -/
theorem recomputed_eq {rate p : Nat} (hrate : 1 ≤ rate) (hp : p ≤ 4095) :
    recomputed rate p = (rate * (4096 - p) + 4095) / 4096 ∧ 1 ≤ recomputed rate p := by
  have hway : 1 * 1 ≤ rate * (4096 - p) := Nat.mul_le_mul hrate (by omega)
  simp only [recomputed, Config.whole]
  omega

theorem recomputed_le_rate {rate p : Nat} (hrate : 1 ≤ rate) (hlow : 1 ≤ p) : recomputed rate p ≤ rate := by
  have hway : rate * (4096 - p) ≤ rate * 4095 := Nat.mul_le_mul_left _ (by omega)
  simp only [recomputed, Config.whole]
  omega

/-- A run begun from IDLE, or with R recomputed, has room for each of its steps (R51 to R53). -/
theorem stepsFit_start {rate p left : Nat} (hlow : 1 ≤ rate) (hhigh : rate ≤ 999)
    (h : p = 0 ∧ left = rate ∨ 1 ≤ p ∧ p ≤ 4095 ∧ left = recomputed rate p) : StepsFit (p, left) := by
  obtain ⟨rfl, rfl⟩ | ⟨-, hp, rfl⟩ := h
  · exact ⟨hlow, by dsimp only; omega⟩
  · obtain ⟨hone, -, hroom⟩ := recomputed_bounds hhigh hp
    exact ⟨hone, hroom⟩

/-! ### An AUTO from IDLE (R25, R47) -/

/-- A copy of a bank some steps into an AUTO. -/
def RunningAt (x : Nat × Nat) (r : BankRecord) : Prop := r.phase = .auto ∧ r.progress = x.1 ∧ r.remaining = x.2

/-- A copy of a bank whose AUTO has completed (R36). -/
def Completed (r : BankRecord) : Prop := r.phase = .idle ∧ r.progress = 0 ∧ r.done = true

/-- A step with more to come advances the run (R51). -/
theorem autoStep_running {x : Nat × Nat} {r : BankRecord} (hr : RunningAt x r) (hfits : StepsFit x) (htwo : 2 ≤ x.2)
    (n : FieldNo) (dwell : Nat) : RunningAt (x.1 + autoStepSize x.1 x.2, x.2 - 1) (r.autoStep n dwell) := by
  obtain ⟨hp, hprogress, hleft⟩ := hr
  have hshort := autoStepSize_short htwo hfits.2
  rw [autoStep_of_short n dwell (by rw [hprogress, hleft]; exact hshort)]
  exact ⟨hp, by simp only [BankRecord.setLevels, hprogress, hleft], by simp only [BankRecord.setLevels, hleft]⟩

/-- The last step of a run completes it (R36, R51). -/
theorem autoStep_completed {x : Nat × Nat} {r : BankRecord} (hr : RunningAt x r) (hfits : StepsFit x) (hone : x.2 = 1)
    (n : FieldNo) (dwell : Nat) : Completed (r.autoStep n dwell) := by
  obtain ⟨-, hprogress, hleft⟩ := hr
  have hlt := stepsFit_lt hfits
  rw [autoStep_of_long n dwell (by rw [hprogress, hleft, hone, autoStepSize_one]; omega)]
  exact ⟨rfl, rfl, rfl⟩

/-- What a bank publishes with no reading in its lever register: its copy after the auto step that is due (R47, R48). -/
theorem publish_published {k : Bank} (hlever : k.lever = none) (n : FieldNo) (dwell : Nat) :
    (k.publish n dwell).published = ((k.stepAuto n dwell).setLevels).refresh n := by
  simp only [Bank.publish, Bank.brought, BankRecord.readLever, hlever]

/-- Key levels and the rewriting of stale values leave the state, P, R and the done flag (R10, R37). -/
theorem refresh_setLevels (r : BankRecord) (n : FieldNo) :
    (r.setLevels.refresh n).phase = r.phase ∧ (r.setLevels.refresh n).progress = r.progress ∧
      (r.setLevels.refresh n).remaining = r.remaining ∧ (r.setLevels.refresh n).done = r.done := ⟨rfl, rfl, rfl, rfl⟩

/-- Publishing leaves P, R and the state of the copy brought, in both copies (R13, R48). -/
theorem publish_running {x : Nat × Nat} {k : Bank} (hlever : k.lever = none) (n : FieldNo) {dwell : Nat}
    (h : RunningAt x (k.stepAuto n dwell)) :
    RunningAt x (k.publish n dwell).published ∧ RunningAt x (k.publish n dwell).working := by
  have hworking : (k.publish n dwell).working = (k.publish n dwell).published.clearFlags := rfl
  obtain ⟨hstate, hat, hrest⟩ := h
  obtain ⟨hphase, hprogress, hleft, -⟩ := refresh_setLevels (k.stepAuto n dwell) n
  rw [← publish_published hlever] at hphase hprogress hleft
  have hpublished : RunningAt x (k.publish n dwell).published :=
    ⟨hphase.trans hstate, hprogress.trans hat, hleft.trans hrest⟩
  exact ⟨hpublished, hworking ▸ hpublished⟩

theorem publish_completed {k : Bank} (hlever : k.lever = none) (n : FieldNo) {dwell : Nat}
    (h : Completed (k.stepAuto n dwell)) : Completed (k.publish n dwell).published := by
  obtain ⟨hstate, hat, hflag⟩ := h
  obtain ⟨hphase, hprogress, -, hdone⟩ := refresh_setLevels (k.stepAuto n dwell) n
  rw [← publish_published hlever] at hphase hprogress hdone
  exact ⟨hphase.trans hstate, hprogress.trans hat, hdone.trans hflag⟩

/-- A bank between two fields of an uninterrupted AUTO, some steps into its run. -/
structure BetweenSteps (x : Nat × Nat) (k : Bank) : Prop where
  published : RunningAt x k.published
  working : RunningAt x k.working
  unread : k.lever = none
  unmarked : k.stepMark = false

/-- A bank whose working copy has taken its step for the field publishes it (R20, R47). -/
theorem stepAuto_marked {k : Bank} (h : k.stepMark = true) (n : FieldNo) (dwell : Nat) :
    k.stepAuto n dwell = k.working := if_neg (by simp [h])

theorem stepAuto_unmarked {x : Nat × Nat} {k : Bank} (h : BetweenSteps x k) (n : FieldNo) (dwell : Nat) :
    k.stepAuto n dwell = k.working.autoStep n dwell := by
  obtain ⟨hp, -, -⟩ := h.working
  exact if_pos ⟨hp, h.unmarked⟩

/-- A bank set running from IDLE stands at the start of its run, with the step it takes at once before it (R25). -/
theorem auto_working {k : Bank} (hp : k.working.phase = .idle) (hprogress : k.working.progress = 0) (n : FieldNo)
    (dwell : Nat) :
    ∃ r, RunningAt (0, k.working.rate) r ∧ (k.auto n dwell).working = r.autoStep n dwell :=
  ⟨{ k.working with phase := .auto, remaining := k.working.rate, engagement := .pickup }, ⟨rfl, hprogress, rfl⟩,
    congrArg Bank.working (auto_idle hp n dwell)⟩

/-- The first field update of a run. -/
theorem updates_one (k : Bank) (n : FieldNo) (dwell : Nat) : k.updates n dwell 1 = k.publish (fieldsOn n 0) dwell := rfl

/-- The last field update of a run follows those before it. -/
theorem updates_succ (k : Bank) (n : FieldNo) (dwell m : Nat) :
    k.updates n dwell (m + 1) = (k.updates n dwell m).publish (fieldsOn n m) dwell := rfl

section
variable {k : Bank} (hp : k.working.phase = .idle) (hprogress : k.working.progress = 0) (hlever : k.lever = none)
  (hlow : 1 ≤ k.working.rate) (hhigh : k.working.rate ≤ 999) (n : FieldNo) (dwell : Nat)
include hp hprogress hlever hlow hhigh

/-- After `m` fields of an AUTO at a greater rate the bank is `m` steps into its run (R25, R47, R51). -/
theorem updates_running {m : Nat} (hone : 1 ≤ m) (hm : m < k.working.rate) :
    BetweenSteps (autoRun m (0, k.working.rate)) ((k.auto n dwell).updates n dwell m) := by
  have hstart : StepsFit (0, k.working.rate) := stepsFit_start hlow hhigh (.inl ⟨rfl, rfl⟩)
  obtain ⟨r, hbegun, hworks⟩ := auto_working hp hprogress n dwell
  have hauto := auto_idle hp n dwell
  induction m with
  | zero => omega
  | succ m ih =>
    obtain rfl | hmore : m = 0 ∨ 1 ≤ m := by omega
    · have hl : (k.auto n dwell).lever = none := (congrArg Bank.lever hauto).trans hlever
      have hfirst := autoStep_running hbegun hstart (by dsimp only; omega) n dwell
      obtain ⟨hpub, hwork⟩ := publish_running (k := k.auto n dwell) hl (fieldsOn n 0) (dwell := dwell) (by
        rw [stepAuto_marked (congrArg Bank.stepMark hauto), hworks]
        exact hfirst)
      rw [Nat.zero_add, updates_one]
      exact ⟨hpub, hwork, hl, rfl⟩
    · have hbetween := ih hmore (by omega)
      obtain ⟨hleft, hfits⟩ := autoRun_fits hstart (k := m) (by dsimp only; omega)
      obtain ⟨hpub, hwork⟩ := publish_running hbetween.unread (fieldsOn n m) (dwell := dwell) (by
        rw [stepAuto_unmarked hbetween]
        exact autoStep_running hbetween.working hfits (by rw [hleft]; dsimp only; omega) _ _)
      rw [updates_succ, autoRun_succ]
      exact ⟨hpub, hwork, hbetween.unread, rfl⟩

/-- At the field that its rate counts, an AUTO publishes its completion (R25, R36, R51). -/
theorem updates_completed : Completed ((k.auto n dwell).updates n dwell k.working.rate).published := by
  have hstart : StepsFit (0, k.working.rate) := stepsFit_start hlow hhigh (.inl ⟨rfl, rfl⟩)
  have hauto := auto_idle hp n dwell
  obtain ⟨m, hm⟩ : ∃ m, k.working.rate = m + 1 := ⟨k.working.rate - 1, by omega⟩
  have hlast : ((k.auto n dwell).updates n dwell k.working.rate) =
      ((k.auto n dwell).updates n dwell m).publish (fieldsOn n m) dwell := by rw [hm, updates_succ]
  rw [hlast]
  obtain rfl | hmore : m = 0 ∨ 1 ≤ m := by omega
  · refine publish_completed ((congrArg Bank.lever hauto).trans hlever) _ ?_
    obtain ⟨r, hbegun, hworks⟩ := auto_working hp hprogress n dwell
    have hmarked : (k.auto n dwell).stepMark = true := congrArg Bank.stepMark hauto
    show Completed ((k.auto n dwell).stepAuto _ dwell)
    rw [stepAuto_marked hmarked, hworks]
    exact autoStep_completed hbegun hstart hm n dwell
  · have hbetween := updates_running hp hprogress hlever hlow hhigh n dwell hmore (by omega)
    obtain ⟨hleft, hfits⟩ := autoRun_fits hstart (k := m) (by dsimp only; omega)
    refine publish_completed hbetween.unread _ ?_
    rw [stepAuto_unmarked hbetween]
    exact autoStep_completed hbetween.working hfits (by rw [hleft]; dsimp only; omega) _ _

end

/-- Settles O16: the run by `autoRun_fits` and `autoRun_ends`, the AUTO by following its run field by field. -/
theorem autoRunsCompleteAtTheirRate : Obligations.AutoRunsCompleteAtTheirRate := by
  refine ⟨fun D P hD _ hP hP' => ?_, fun D P R hD hD' hstart => ?_, fun k n dwell m hp h0 hD hD' hl hm hm' => ?_⟩
  · obtain ⟨heq, hone⟩ := recomputed_eq hD hP'
    exact ⟨heq, hone, recomputed_le_rate hD hP⟩
  · have hfits := stepsFit_start hD hD' hstart
    refine ⟨fun k hk => ?_, autoRun_ends hfits⟩
    obtain ⟨hleft, hfit⟩ := autoRun_fits hfits hk
    exact ⟨stepsFit_lt hfit, hleft, stepsFit_size hfit⟩
  · split
    · rename_i hlt
      obtain ⟨hphase, hprogress, hleft⟩ := (updates_running hp h0 hl hD hD' n dwell hm hlt).published
      obtain ⟨hrun, -⟩ := autoRun_fits (stepsFit_start hD hD' (.inl ⟨rfl, rfl⟩)) (k := m) hlt
      exact ⟨hphase, hprogress, hleft.trans hrun⟩
    · obtain rfl : m = k.working.rate := by omega
      exact updates_completed hp h0 hl hD hD' n dwell

end Sys2Proof.TransitionArithmetic
end

section
/-! What the examinations of operands let through (R2, R63, R65, R127, R128): each value is the one its byte names. -/

open Sys2Proof Sys2Proof.Machine Sys2Proof.TransitionController

namespace Sys2Proof.TransitionArithmetic

/-! ### Codes as bytes name them -/

theorem named_eq_ok {α : Type} {v : Option α} {x : α} (h : named v = .ok x) : v = some x := by
  cases v with
  | none => cases h
  | some y => cases h; rfl

theorem validSource_number {strapHigh : Bool} {c : Byte} {x : Source} (h : validSource strapHigh c = some x) :
    x.val = c.toNat := by
  unfold validSource at h
  split at h
  · split at h
    · split at h
      · cases h; rfl
      · cases h
    · cases h; rfl
  · cases h

theorem sourceOf_number {s : State} {c : Byte} {x : Source} (h : s.sourceOf c = .ok x) : x.val = c.toNat := by
  unfold State.sourceOf at h
  split at h
  · rename_i hv
    cases h
    exact validSource_number hv
  · cases h

theorem busOf_eq {c : Byte} {u : Bus} (h : busOf c = some u) : u = if c = 0 then .a else .b := by
  unfold busOf at h
  split_ifs at h with h0 h1
  · cases h
    exact (if_pos h0).symm
  · cases h
    exact (if_neg h0).symm

theorem keyerOf_number {c : Byte} {k : KeyerIx} (h : keyerOf c = some k) : c.toNat = k.val + 1 := by
  unfold keyerOf at h
  split at h
  · cases h
    dsimp only
    omega
  · cases h

/-- A flag's byte: its value, and the test that the rules write. -/
theorem boolOf_eq {c : Byte} {on : Bool} (h : boolOf c = some on) : on.toNat = c.toNat ∧ on = decide (c = 1) := by
  unfold boolOf at h
  split_ifs at h with h0 h1
  · cases h; rw [h0]; decide
  · cases h; rw [h1]; decide

theorem keyerTypeOf_code {c : Byte} {k : KeyerType} (h : keyerTypeOf c = some k) : k.code = c.toNat := by
  unfold keyerTypeOf at h
  split_ifs at h with h0 h1
  · cases h; rw [h0]; rfl
  · cases h; rw [h1]; rfl

theorem kindOf_code {c : Byte} {k : Kind} (h : kindOf c = some k) : k.code = c.toNat := by
  unfold kindOf at h
  split_ifs at h with h0 h1
  · cases h; rw [h0]; rfl
  · cases h; rw [h1]; rfl

theorem borderColourOf_code {c : Byte} {k : BorderColour} (h : borderColourOf c = some k) : k.code = c.toNat := by
  unfold borderColourOf at h
  split_ifs at h with h0 h1
  · cases h; rw [h0]; rfl
  · cases h; rw [h1]; rfl

theorem directionOf_code {c : Byte} {d : Direction} (h : directionOf c = some d) : d.code = c.toNat := by
  unfold directionOf at h
  split_ifs at h with h0 h1 h2
  · cases h; rw [h0]; rfl
  · cases h; rw [h1]; rfl
  · cases h; rw [h2]; rfl

theorem patternOf_number {c : Byte} {v : Nat} (h : patternOf c = some v) : v = c.toNat := by
  unfold patternOf at h
  split at h
  · cases h; rfl
  · cases h

theorem layersOf_number {c : Byte} {v : LayerSet} (h : layersOf c = some v) : v.toNat = c.toNat := by
  unfold layersOf at h
  split at h
  · cases h
    rw [BitVec.toNat_ofNat, Nat.mod_eq_of_lt (by omega)]
  · cases h

/-- A value that its mask bit selects is the one examined, and nothing stands for one that the mask leaves out (R128). -/
theorem masked_eq {α : Type} {mask : Byte} {bit : Nat} {examined : Except Reason α} {x : Option α} {number : α → Nat}
    {v : Nat} (h : masked mask bit examined = .ok x) (hv : ∀ a, examined = .ok a → number a = v) :
    x.map number = ifSelected mask bit v := by
  unfold masked at h
  split at h
  · rename_i hbit
    cases hx : examined with
    | error r => rw [hx] at h; cases h
    | ok a =>
      rw [hx] at h
      cases h
      simp [ifSelected, hbit, hv a hx]
  · rename_i hbit
    cases h
    simp [ifSelected, hbit]

theorem banksOf_eq {s : State} {mask : Byte} {bs : List BankIx} (h : s.banksOf mask = .ok bs) :
    bs = (indices 4).filter fun b => mask.getLsbD b.val := by
  unfold State.banksOf at h
  dsimp only at h
  split at h
  · cases h
  · cases h; rfl

/-! ### The elements that a request needs, by their numbers (R94) -/

theorem transElement_number (b : BankIx) : (transElement b).val = 6 * b.val + 1 := by
  simp only [transElement]; omega

theorem bkgdElement_number (b : BankIx) : (bkgdElement b).val = 6 * b.val := by
  simp only [bkgdElement]; omega

theorem keyElement_number (b : BankIx) (k : KeyerIx) : (keyElement b k).val = 6 * b.val + 2 + k.val := by
  simp only [keyElement]; omega

/-! ### A plan is what its request asks for (R127, R128) -/

theorem planMask_takes {s : State} {mask : Byte} {a : Action} {p : Plan} (h : s.planMask mask a = .ok p) :
    p.TakesMask mask a := by
  obtain ⟨bs, hbs, h⟩ := bind_eq_ok h
  cases h
  refine ⟨banksOf_eq hbs, rfl, ?_⟩
  simp only [List.map_map]
  exact List.map_congr_left fun b _ => transElement_number b

theorem planSelect_asAsked {s : State} {bank bus source lead : Byte} {p : Plan}
    (h : s.planSelect bank bus source = .ok p) : p.AsAsked (.select bank bus source lead) := by
  obtain ⟨b, hb, h⟩ := bind_eq_ok h
  obtain ⟨u, hu, h⟩ := bind_eq_ok h
  obtain ⟨c, hc, h⟩ := bind_eq_ok h
  obtain ⟨-, -, h⟩ := bind_eq_ok h
  cases h
  refine ⟨b, c, bankOf_number hb, sourceOf_number hc, rfl, ?_, ?_⟩
  · rw [busOf_eq (named_eq_ok hu)]
  · simp only [List.map_cons, List.map_nil, bkgdElement_number]

theorem planKeyCut_asAsked {s : State} {bank keyer onOff lead : Byte} {p : Plan}
    (h : s.planKeyCut bank keyer onOff = .ok p) : p.AsAsked (.keyCut bank keyer onOff lead) := by
  obtain ⟨b, hb, h⟩ := bind_eq_ok h
  obtain ⟨k, hk, h⟩ := bind_eq_ok h
  obtain ⟨on, hon, h⟩ := bind_eq_ok h
  cases h
  refine ⟨b, k, bankOf_number hb, keyerOf_number (named_eq_ok hk), rfl, ?_, ?_⟩
  · rw [(boolOf_eq (named_eq_ok hon)).2]
  · simp only [List.map_cons, List.map_nil, keyElement_number]

theorem planKeySetup_asAsked {s : State} {bank keyer mask fill key kind : Byte} {clip gain : Nat} {invert lead : Byte}
    {p : Plan} (h : s.planKeySetup bank keyer mask fill key kind clip gain invert = .ok p) :
    p.AsAsked (.keySetup bank keyer mask fill key kind clip gain invert lead) := by
  obtain ⟨b, hb, h⟩ := bind_eq_ok h
  obtain ⟨k, hk, h⟩ := bind_eq_ok h
  obtain ⟨-, -, h⟩ := bind_eq_ok h
  obtain ⟨t, ht, h⟩ := bind_eq_ok h
  obtain ⟨i, hi, h⟩ := bind_eq_ok h
  obtain ⟨f, hf, h⟩ := bind_eq_ok h
  obtain ⟨y, hy, h⟩ := bind_eq_ok h
  obtain ⟨-, -, h⟩ := bind_eq_ok h
  obtain ⟨-, -, h⟩ := bind_eq_ok h
  cases h
  refine ⟨b, k, _, bankOf_number hb, keyerOf_number (named_eq_ok hk), rfl, rfl, ⟨?_, ?_, ?_, rfl, rfl, ?_⟩, ?_⟩
  · exact masked_eq hf fun a ha => sourceOf_number ha
  · exact masked_eq hy fun a ha => sourceOf_number ha
  · exact masked_eq ht fun a ha => keyerTypeOf_code (named_eq_ok ha)
  · exact masked_eq hi fun a ha => (boolOf_eq (named_eq_ok ha)).1
  · simp only [List.map_cons, List.map_nil, keyElement_number]

theorem planTransSetup_asAsked {s : State} {bank mask kind : Byte} {rate : Nat}
    {pattern direction softness width colour lead : Byte} {p : Plan}
    (h : s.planTransSetup bank mask kind rate pattern direction softness width colour = .ok p) :
    p.AsAsked (.transSetup bank mask kind rate pattern direction softness width colour lead) := by
  obtain ⟨b, hb, h⟩ := bind_eq_ok h
  obtain ⟨-, -, h⟩ := bind_eq_ok h
  obtain ⟨k, hk, h⟩ := bind_eq_ok h
  obtain ⟨q, hq, h⟩ := bind_eq_ok h
  obtain ⟨d, hd, h⟩ := bind_eq_ok h
  obtain ⟨c, hc, h⟩ := bind_eq_ok h
  cases h
  refine ⟨b, _, bankOf_number hb, rfl, rfl, ⟨?_, rfl, ?_, ?_, rfl, rfl, ?_⟩, ?_⟩
  · exact masked_eq hk fun a ha => kindOf_code (named_eq_ok ha)
  · have hpattern := masked_eq (number := id) hq fun a ha => patternOf_number (named_eq_ok ha)
    rwa [Option.map_id] at hpattern
  · exact masked_eq hd fun a ha => directionOf_code (named_eq_ok ha)
  · exact masked_eq hc fun a ha => borderColourOf_code (named_eq_ok ha)
  · simp only [List.map_cons, List.map_nil, transElement_number]

theorem planLayers_asAsked {s : State} {bank set lead : Byte} {p : Plan} (h : s.planLayers bank set = .ok p) :
    p.AsAsked (.layers bank set lead) := by
  obtain ⟨b, hb, h⟩ := bind_eq_ok h
  obtain ⟨v, hv, h⟩ := bind_eq_ok h
  cases h
  refine ⟨b, v, bankOf_number hb, layersOf_number (named_eq_ok hv), rfl, rfl, ?_⟩
  simp only [List.map_cons, List.map_nil, transElement_number]

/-- A plan that passes its value tests asks for what its request carries, by number (R63, R94, R95, R127, R128). -/
theorem plan_asAsked {s : State} {body : Body} {p : Plan} {lead : Byte} (h : s.planOf body = some (.ok p, lead)) :
    p.AsAsked body := by
  have hp : (s.planOf body).map Prod.fst = some (.ok p) := by rw [h]; rfl
  cases body with
  | select => exact planSelect_asAsked (Option.some.inj hp)
  | cut | auto | hold => exact planMask_takes (Option.some.inj hp)
  | keyCut => exact planKeyCut_asAsked (Option.some.inj hp)
  | keySetup => exact planKeySetup_asAsked (Option.some.inj hp)
  | transSetup => exact planTransSetup_asAsked (Option.some.inj hp)
  | layers => exact planLayers_asAsked (Option.some.inj hp)
  | _ => cases hp

end Sys2Proof.TransitionArithmetic
end

section
/-! An accepted scheduled request (R63, R69, R71, R100, R127, R128): its entries, its claims and its ACCEPT. -/

open Sys2Proof Sys2Proof.Machine Sys2Proof.TransitionController

namespace Sys2Proof.TransitionArithmetic

/-! ### Frames to one link -/

/-- A frame sent to one link is queued there, and no other link is told (R121, R122). -/
theorem send_queuesAll (s : State) (m : LinkIx) (f : TxFrame) (l : LinkIx) :
    (s.link l).QueuesAll s.now (if l = m then [f] else []) ((s.send m f).link l) := by
  by_cases h : l = m
  · subst h
    rw [if_pos rfl, State.link_send_same]
    exact Link.foldl_place_queues s.now [f] _
  · rw [if_neg h]
    exact State.link_send_other s h f

/-- A change of the Claim Table brings the lever registers along (R40, R100). -/
theorem setClaims_leversFollow (s : State) (claims : Vector (Option Claim) 25) :
    s.LeversFollowClaims (s.setClaims claims) := fun b => State.bank_setClaims s claims b

/-! ### Scheduled requests -/

/-- What its plan asks for decides a scheduled request's verdict (R126). -/
theorem verdict_scheduled {s : State} {o : Offer} {plan : Except Reason Plan} {lead : Byte}
    (h : s.planOf o.body = some (plan, lead)) : s.verdict o = s.planVerdict o.link plan := by
  obtain ⟨l, q, tag, body⟩ := o
  cases body with
  | select | cut | auto | hold | keyCut | keySetup | transSetup | layers => cases h; rfl
  | _ => cases h

/-- The command of a scheduled request serves it (R127, R128). -/
theorem exec_scheduled {s : State} {o : Offer} {plan : Except Reason Plan} {lead : Byte} (ho : s.offer = some o)
    (h : s.planOf o.body = some (plan, lead)) :
    exec o.body.command s = .next ((s.takeRequest o).serveScheduled o plan lead) := by
  obtain ⟨l, q, tag, body⟩ := o
  cases body with
  | select => cases h; simp only [Body.command, exec, execSelect, ho]
  | cut => cases h; simp only [Body.command, exec, execCut, ho]
  | auto => cases h; simp only [Body.command, exec, execAuto, ho]
  | hold => cases h; simp only [Body.command, exec, execHold, ho]
  | keyCut => cases h; simp only [Body.command, exec, execKeyCut, ho]
  | keySetup => cases h; simp only [Body.command, exec, execKeySetup, ho]
  | transSetup => cases h; simp only [Body.command, exec, execTransSetup, ho]
  | layers => cases h; simp only [Body.command, exec, execLayers, ho]
  | _ => cases h

/-- A plan that passes: its elements refuse nothing and its entries have room (R73, R126). -/
theorem planVerdict_none {s : State} {l : LinkIx} {p : Plan} (h : s.planVerdict l (.ok p) = none) :
    s.elementsRefusal l p.elements = none ∧ ¬ s.freePlaces < p.banks.length := by
  simp only [State.planVerdict, orElse] at h
  split at h
  · cases h
  · rename_i hpass
    refine ⟨hpass, fun hfull => ?_⟩
    simp [refuseIf, hfull] at h

theorem link_insertAction (s : State) (due : FieldNo) (o : Origin) (bs : List BankIx) (a : Action) (l : LinkIx) :
    (s.insertAction due o bs a).link l = s.link l := rfl

/-- The writes of a scheduled request that passes: its claims, its entries and its ACCEPT (R71, R100, R131). -/
theorem serveScheduled_accepted {s : State} {o : Offer} {p : Plan} {lead : Byte} (hup : (s.link o.link).up = true)
    (hpass : s.elementsRefusal o.link p.elements = none) (hroom : ¬ s.freePlaces < p.banks.length) :
    s.serveScheduled o (.ok p) lead =
      ((s.useElements o.link p.elements).insertAction (s.dueField lead.toNat) (.link o.link o.tag) p.banks
        p.action).accept o (acceptedAs (s.dueField lead.toNat) p.action) := by
  simp only [State.serveScheduled, hpass, if_neg hroom, State.schedulePlan]
  refine State.settle_up _ _ ?_
  rw [State.accept, State.link_send_same, Link.place_up, link_insertAction, State.useElements, State.setClaims_up, hup]

/-- Settles O3: a request that passes is served as `serveScheduled_accepted` says, each write by its own law, and its
operands are those its bytes name by `plan_asAsked`. -/
theorem acceptedChangeIsScheduled : Obligations.AcceptedChangeIsScheduled := by
  intro s o p lead ho hplan hverdict
  obtain ⟨-, -, hup⟩ := State.offer_spec ho
  obtain ⟨hpass, hroom⟩ := planVerdict_none ((verdict_scheduled hplan).symm.trans hverdict)
  have hserved := serveScheduled_accepted (s := s.takeRequest o) (lead := lead) ((State.takeRequest_up ..).trans hup)
    hpass hroom
  refine ⟨_, _, .accept o.tag o.body.code (acceptedAs (s.dueField lead.toNat) p.action),
    (exec_scheduled ho hplan).trans (congrArg _ hserved), rfl, congrArg _ ?_, rfl, rfl, rfl, plan_asAsked hplan,
    setClaims_leversFollow (s.takeRequest o) _, fun l => ?_⟩
  · cases p.action <;> rfl
  · have hclaims := State.setClaims_queues (s.takeRequest o) (usedClaims o.link p.elements s.claims) l
    exact hclaims.append (send_queuesAll (((s.takeRequest o).useElements o.link p.elements).insertAction
      (s.dueField lead.toNat) (.link o.link o.tag) p.banks p.action) o.link _ l)

end Sys2Proof.TransitionArithmetic
end

section
/-! The Configuration Table (R67, R177 to R181): which numbers are assigned, which values are refused, what is stored of
the others, and an accepted CONFIG. -/

open Sys2Proof Sys2Proof.Machine Sys2Proof.TransitionController

namespace Sys2Proof.TransitionArithmetic

/-! ### Item numbers (R179) -/

theorem mem_shifted_range (low count n : Nat) : n ∈ (List.range count).map (· + low) ↔ low ≤ n ∧ n < low + count := by
  simp only [List.mem_map, List.mem_range]
  constructor
  · rintro ⟨i, hi, rfl⟩
    omega
  · rintro ⟨hlow, hhigh⟩
    exact ⟨n - low, by omega, by omega⟩

/-- The assigned numbers, by number (R179). -/
theorem assigned_eq (n : Nat) : assigned n = isItemNumber n := by
  rw [Bool.eq_iff_iff, assigned, List.contains_iff_mem, isItemNumber, decide_eq_true_iff]
  simp only [assignedItems, List.mem_append, mem_shifted_range]
  omega

theorem assigned_lt {n : Nat} (h : assigned n = true) : n < 88 := by
  rw [assigned_eq, isItemNumber, decide_eq_true_iff] at h
  omega

/-! ### Values of an item (R67, R180) -/

/-- The bits of an OUT mode that are not spare are its top bit and its low four (R180). -/
theorem and_outBits (v : Nat) : v &&& 0x800F = 32768 * (v / 32768 % 2) + v % 16 := by
  have hlow : (v &&& 0x800F) % 16 = v % 16 := by
    rw [show 16 = 2 ^ 4 from rfl, Nat.and_mod_two_pow]
    exact (Nat.and_two_pow_sub_one_eq_mod (v % 2 ^ 4) 4).trans (Nat.mod_mod _ _)
  have hmid : (v &&& 0x800F) / 16 % 2048 = 0 := by
    rw [show 16 = 2 ^ 4 from rfl, Nat.and_div_two_pow, show 2048 = 2 ^ 11 from rfl, Nat.and_mod_two_pow]
    exact Nat.and_zero _
  have hhigh : (v &&& 0x800F) / 32768 = v / 32768 % 2 := by
    rw [show 32768 = 2 ^ 15 from rfl, Nat.and_div_two_pow]
    exact Nat.and_two_pow_sub_one_eq_mod _ 1
  omega

/-- The bits of an IN mode that are not spare are its low six and the three of its action (R180). -/
theorem and_inBits (v : Nat) : v &&& 0x073F = v % 64 + 256 * (v / 256 % 8) := by
  have hlow : (v &&& 0x073F) % 256 = v % 64 := by
    rw [show 256 = 2 ^ 8 from rfl, Nat.and_mod_two_pow]
    refine (Nat.and_two_pow_sub_one_eq_mod (v % 2 ^ 8) 6).trans ?_
    omega
  have hhigh : (v &&& 0x073F) / 256 = v / 256 % 8 := by
    rw [show 256 = 2 ^ 8 from rfl, Nat.and_div_two_pow]
    exact Nat.and_two_pow_sub_one_eq_mod _ 3
  omega

/-- A GPI_MODE that is a code is stored without its spare bits, and no other value is (R180). -/
theorem modeValue_eq (value : BitVec 16) :
    modeValue value =
      if 32768 ≤ value.toNat then (if value.toNat % 8 ≤ 4 then some (value &&& 0x800F#16) else none)
      else if value.toNat / 16 % 4 ≠ 3 ∧ value.toNat / 256 % 8 ≤ 4 then some (value &&& 0x073F#16) else none := by
  have hthree : value.toNat / 16 % 4 ≤ 2 ↔ value.toNat / 16 % 4 ≠ 3 := by omega
  simp only [modeValue, modeOut_iff, hthree]

theorem modeValue_number {value v : BitVec 16} (h : modeValue value = some v) :
    v.toNat = if 32768 ≤ value.toNat then 32768 + value.toNat % 16
      else value.toNat % 64 + 256 * (value.toNat / 256 % 8) := by
  have hlt := value.isLt
  rw [modeValue_eq] at h
  split_ifs at h ⊢
  · cases h
    rw [BitVec.toNat_and]
    refine (and_outBits _).trans ?_
    omega
  · cases h
    rw [BitVec.toNat_and]
    exact and_inBits _

/-- A code is valid for the part if it is a code, and no code of a bank that is not enabled (R2). -/
theorem validSource_isSome (s : State) (c : Byte) : (validSource s.strapHigh c).isSome = s.isSourceNumber c := by
  rw [Bool.eq_iff_iff, State.isSourceNumber, decide_eq_true_iff]
  unfold validSource
  by_cases hc : c.toNat < 55
  · by_cases hre : 51 ≤ c.toNat
    · cases hs : s.strapHigh
      · by_cases hlow : c.toNat < 53
        · simp [hc, reentered, hre, enabledUnder, show c.toNat - 51 < 2 by omega]
          omega
        · simp [hc, reentered, hre, enabledUnder, show ¬ c.toNat - 51 < 2 by omega]
          omega
      · simp [hc, reentered, hre, enabledUnder]
        omega
    · simp [hc, reentered, hre]
      split_ifs <;> omega
  · simp [hc]
    split_ifs <;> omega

theorem validSource_eq_none (s : State) (c : Byte) : validSource s.strapHigh c = none ↔ s.isSourceNumber c = false := by
  rw [← validSource_isSome]
  cases validSource s.strapHigh c <;> simp

/-- A GPI_ARG is refused only for the function or the action of its line's mode (R180). -/
theorem argValue_eq (s : State) (mode value : BitVec 16) :
    argValue s.strapHigh mode value =
      if (32768 ≤ mode.toNat ∧ (mode.toNat % 8 = 1 ∨ mode.toNat % 8 = 2)) ∧
          s.isSourceNumber (BitVec.ofNat 8 value.toNat) = false then .error .badSource
      else if mode.toNat < 32768 ∧ mode.toNat / 256 % 8 = 4 ∧ 99 < value.toNat % 256 then .error .badValue
      else .ok value := by
  have hsource : modeSource mode = true ↔ 32768 ≤ mode.toNat ∧ (mode.toNat % 8 = 1 ∨ mode.toNat % 8 = 2) := by
    simp [modeSource, modeOut_iff]
  have hrecall : modeRecall mode = true ↔ mode.toNat < 32768 ∧ mode.toNat / 256 % 8 = 4 := by
    simp [modeRecall, ← modeOut_iff, ← Nat.not_le]
  simp only [argValue, validSource_eq_none, hsource, hrecall, and_assoc]

theorem firstFault_one (test : Bool) (r : Reason) : firstFault [(test, r)] = none ↔ test = false := by
  cases test <;> simp [firstFault]

theorem firstFault_two (test then' : Bool) (r q : Reason) :
    firstFault [(test, r), (then', q)] = none ↔ test = false ∧ then' = false := by
  cases test <;> cases then' <;> simp [firstFault]

/-- A value is stored in an item exactly if it has no fault (R67, R180). -/
theorem itemValue_isOk (s : State) (number : Nat) (value : BitVec 16) :
    (∃ v, s.itemValue number value = .ok v) ↔
      s.codeFault number (s.item (number - 8)).toNat value.toNat = none := by
  unfold State.itemValue State.codeFault
  split
  · rw [firstFault_one, modeValue_eq]
    split_ifs
    all_goals
      simp [named]
      omega
  · split
    · rw [firstFault_two, argValue_eq]
      split_ifs
      · simp_all
      · simp_all
      · simp_all
    · simp

/-- The ranges of the items above the six of the whole part (R179). -/
theorem itemRange_above {number : Nat} (h : 7 ≤ number) :
    itemRange number = if number ≤ 11 then (0, 15) else if number ≤ 40 then (0, 7) else (0, 255) := by
  unfold itemRange
  iterate 5 rw [if_neg (by omega)]

/-- Every range lies within 16 bits (R179). -/
theorem itemRange_le (number : Nat) : (itemRange number).1 ≤ 1 ∧ (itemRange number).2 ≤ 65535 := by
  unfold itemRange
  split_ifs <;> decide

/-- What the items above the six of the whole part store (R179, R180). -/
theorem storedValue_above {number : Nat} (h : 7 ≤ number) (value : Nat) :
    storedValue number value =
      if number ≤ 11 then min value 15
      else if number ≤ 40 then min value 7
      else if number ≤ 53 then min value 255
      else if number ≤ 71 then
        (if 32768 ≤ value then 32768 + value % 16 else value % 64 + 256 * (value / 256 % 8))
      else if number ≤ 79 then value
      else min value 255 := by
  unfold storedValue
  iterate 5 rw [if_neg (by omega)]

/-- A number is stored clamped to its item's range (R67, R179). -/
theorem clamp_stored {number value : Nat} (hassigned : isItemNumber number = true) (hgpi : ¬(64 ≤ number ∧ number ≤ 79))
    (hvalue : value < 65536) :
    max (itemRange number).1 (min value (itemRange number).2) = storedValue number value := by
  rw [isItemNumber, decide_eq_true_iff] at hassigned
  obtain rfl | rfl | rfl | rfl | rfl | rfl | h : number = 1 ∨ number = 2 ∨ number = 3 ∨ number = 4 ∨ number = 5 ∨
      number = 6 ∨ 7 ≤ number := by omega
  case inr.inr.inr.inr.inr.inr =>
    rw [itemRange_above h, storedValue_above h]
    split_ifs <;> dsimp only <;> omega
  all_goals
    simp [itemRange, storedValue]
    try omega

/-- What an item stores (R67, R179, R180). -/
theorem itemValue_number {s : State} {number : Nat} {value v : BitVec 16} (hassigned : assigned number = true)
    (h : s.itemValue number value = .ok v) : v.toNat = storedValue number value.toNat := by
  have hlt := value.isLt
  rw [assigned_eq] at hassigned
  unfold State.itemValue at h
  split at h
  · rw [modeValue_number (named_eq_ok h), storedValue_above (by omega)]
    iterate 3 rw [if_neg (c := number ≤ _) (by omega)]
    rw [if_pos (c := number ≤ 71) (by omega)]
  · split at h
    · rw [argValue_eq] at h
      split_ifs at h
      cases h
      rw [storedValue_above (by omega)]
      iterate 4 rw [if_neg (c := number ≤ _) (by omega)]
      rw [if_pos (c := number ≤ 79) (by omega)]
    · cases h
      have hrange := itemRange_le number
      rw [clampItem, BitVec.toNat_ofNat, Nat.mod_eq_of_lt (by omega), clamp_stored hassigned (by omega) hlt]

end Sys2Proof.TransitionArithmetic
end

section
/-! An accepted CONFIG (R107, R177, R181): the value it stores, the claims it prunes, the line it acts on. -/

open Sys2Proof Sys2Proof.Machine Sys2Proof.TransitionController

namespace Sys2Proof.TransitionArithmetic

/-! ### The storing of an item (R177) -/

theorem pick_putItem (items : Vector (BitVec 16) 88) (number : Nat) (value : BitVec 16) (i : Fin 88) :
    pick (putItem items number value) i = if i.val = number then value else pick items i := by
  unfold putItem
  split
  · rw [pick_upd]
    simp only [Fin.ext_iff]
  · rw [if_neg (by omega)]

theorem item_storeItem (s : State) {number : Nat} (h : number < 88) (value : BitVec 16) (n : Nat) :
    (s.storeItem number value).item n = if n = number then value else s.item n := by
  have hitem : (s.storeItem number value).item n =
      if hn : n < 88 then pick (putItem s.items number value) ⟨n, hn⟩ else 0 := rfl
  rw [hitem]
  by_cases hn : n < 88
  · rw [dif_pos hn, pick_putItem]
    simp only [State.item, dif_pos hn]
  · rw [dif_neg hn, if_neg (by omega), State.item, dif_neg hn]

/-- The lines after an item has been stored: those of a GPI item alone act (R177). -/
theorem line_storeItem (s : State) (number : Nat) (value : BitVec 16) (n : LineIx) :
    (s.storeItem number value).line n =
      if number = 64 + n.val then
        { s.line n with
          timer := none, accepted := (s.line n).pin
          driven := drivenLevel s.table ((s.storeItem number value).gpiMode n) ((s.storeItem number value).gpiArg n) }
      else if number = 72 + n.val then
        { s.line n with
          driven := drivenLevel s.table ((s.storeItem number value).gpiMode n) ((s.storeItem number value).gpiArg n) }
      else s.line n := pick_tab ..

/-! ### The pruning of claims (R107) -/

/-- A claim stays exactly if its holder is a member of its element's group (R107). -/
theorem pick_prunedClaims (s : State) (e : ElemIx) :
    pick s.prunedClaims e = (s.claim e).filter fun c => s.member c.holder e := by
  rw [State.prunedClaims, pick_tab]
  cases s.claim e with
  | none => rfl
  | some c => simp [Option.filter]

theorem pruneAfter_frame (s : State) (number : Nat) :
    s.pruneAfter number = { s with
      claims := (s.pruneAfter number).claims, banks := (s.pruneAfter number).banks
      links := (s.pruneAfter number).links } := by
  unfold State.pruneAfter
  split <;> rfl

theorem claim_pruneAfter (s : State) (number : Nat) (e : ElemIx) :
    (s.pruneAfter number).claim e =
      if isGroupItem number then (s.claim e).filter fun c => s.member c.holder e else s.claim e := by
  unfold State.pruneAfter
  split
  · exact pick_prunedClaims s e
  · rfl

theorem pruneAfter_leversFollow (s : State) (number : Nat) : s.LeversFollowClaims (s.pruneAfter number) := by
  unfold State.pruneAfter
  split
  · exact setClaims_leversFollow s _
  · exact fun b => (if_pos rfl).symm

@[simp] theorem pruneAfter_up (s : State) (number : Nat) (l : LinkIx) :
    ((s.pruneAfter number).link l).up = (s.link l).up := by
  unfold State.pruneAfter
  split
  · exact State.setClaims_up ..
  · rfl

theorem claimReportsFor_same (claims : Vector (Option Claim) 25) : claimReportsFor claims claims = [] := by
  rw [← claimReports_eq]
  exact claimReports_same fun e => rfl

theorem pruneAfter_queues (s : State) (number : Nat) (l : LinkIx) :
    (s.link l).QueuesAll s.now (claimReportsFor s.claims (s.pruneAfter number).claims)
      ((s.pruneAfter number).link l) := by
  unfold State.pruneAfter
  split
  · exact State.setClaims_queues s _ l
  · rw [claimReportsFor_same]
    rfl

/-! ### CONFIG (R181) -/

/-- A CONFIG that passes its examination names an assigned item and stores what the item takes (R181). -/
theorem planConfig_ok {s : State} {item : Byte} {value v : BitVec 16} {number : Nat}
    (h : s.planConfig item value = .ok (number, v)) :
    number = item.toNat ∧ assigned number = true ∧ s.itemValue number value = .ok v := by
  unfold State.planConfig at h
  split at h
  · cases h
  · rename_i hassigned
    cases hv : s.itemValue item.toNat value with
    | error r => rw [hv] at h; cases h
    | ok w =>
      rw [hv] at h
      cases h
      exact ⟨rfl, by simpa using fun hn => hassigned (.inl hn), hv⟩

/-- The state after the touch of SYSTEM and the storing of an item. -/
def configStored (s : State) (l : LinkIx) (number : Nat) (value : BitVec 16) : State :=
  (s.useElements l [systemElement]).storeItem number value

/-- A CONFIG that passes its tests is served: the touch, the value, the pruning, the ACCEPT (R107, R181). -/
theorem execConfig_accepted {s : State} {o : Offer} {item : Byte} {value v : BitVec 16} {number : Nat}
    (ho : s.offer = some o) (hbody : o.body = .config item value) (hplan : s.planConfig item value = .ok (number, v))
    (hverdict : s.verdict o = none) :
    exec .config s = .next (((configStored (s.takeRequest o) o.link number v).pruneAfter number).accept o
      (.item number v)) := by
  obtain ⟨l, q, tag, body⟩ := o
  subst hbody
  obtain ⟨-, -, hup⟩ := State.offer_spec ho
  have hpass : s.elementsRefusal l [systemElement] = none := by
    simpa [State.verdict, hplan, failed, orElse] using hverdict
  simp only [exec, execConfig, ho, State.serveConfig, State.takeRequest_planConfig, hplan,
    State.takeRequest_elementsRefusal, hpass]
  refine congrArg _ (State.settle_up _ _ ?_)
  rw [State.accept, State.link_send_same, Link.place_up, pruneAfter_up]
  exact (State.setClaims_up (s.takeRequest ⟨l, q, tag, .config item value⟩) _ l).trans ((State.takeRequest_up ..).trans hup)

/-- The touch of SYSTEM changes no holder of a TRANS element. -/
theorem usedSystem_trans (p : LinkIx) (claims : Vector (Option Claim) 25) (b : BankIx) :
    pick (usedClaims p [systemElement] claims) (transElement b) = pick claims (transElement b) := by
  refine pick_usedClaims_other p (fun h => ?_) claims
  have hnumber := congrArg Fin.val h
  rw [transElement_number] at hnumber
  have : systemElement.val = 24 := rfl
  omega

theorem configStored_bank (s : State) (l : LinkIx) (number : Nat) (value : BitVec 16) (b : BankIx) :
    (configStored s l number value).bank b = s.bank b := by
  have hclaimed : (configStored s l number value).bank b = (s.setClaims (usedClaims l [systemElement] s.claims)).bank b :=
    rfl
  rw [hclaimed, State.bank_setClaims, usedSystem_trans]
  exact if_pos rfl

theorem configStored_link (s : State) (l : LinkIx) (number : Nat) (value : BitVec 16) (m : LinkIx) :
    (configStored s l number value).link m = (s.setClaims (usedClaims l [systemElement] s.claims)).link m := rfl

theorem configStored_claims (s : State) (l : LinkIx) (number : Nat) (value : BitVec 16) :
    (configStored s l number value).claims = usedClaims l [systemElement] s.claims := rfl

theorem configStored_now (s : State) (l : LinkIx) (number : Nat) (value : BitVec 16) :
    (configStored s l number value).now = s.now := rfl

/-- What a CONFIG queues up to its ACCEPT: the reports of the touch, then those of the pruning (R109; log 9). -/
theorem configStored_queues (s : State) (m : LinkIx) (number : Nat) (value : BitVec 16) (l : LinkIx) :
    (s.link l).QueuesAll s.now
      (claimReportsFor s.claims (usedClaims m [systemElement] s.claims) ++
        claimReportsFor (usedClaims m [systemElement] s.claims) ((configStored s m number value).pruneAfter number).claims)
      (((configStored s m number value).pruneAfter number).link l) := by
  obtain ⟨claims, hclaims⟩ : ∃ claims, claims = usedClaims m [systemElement] s.claims := ⟨_, rfl⟩
  obtain ⟨u, hu⟩ : ∃ u, u = configStored s m number value := ⟨_, rfl⟩
  have hlink : u.link l = (s.setClaims claims).link l := by rw [hu, configStored_link, hclaims]
  have hstored : u.claims = claims := by rw [hu, configStored_claims, hclaims]
  have hnow : u.now = s.now := by rw [hu, configStored_now]
  have hprune := pruneAfter_queues u number l
  rw [hlink, hstored, hnow] at hprune
  rw [← hu, ← hclaims]
  exact (State.setClaims_queues s claims l).append hprune

/-- The state that an accepted CONFIG leaves: the item stored, the claims pruned, the ACCEPT queued. -/
def configServed (s : State) (o : Offer) (number : Nat) (value : BitVec 16) : State :=
  ((configStored (s.takeRequest o) o.link number value).pruneAfter number).accept o (.item number value)

theorem configServed_frame (s : State) (o : Offer) (number : Nat) (value : BitVec 16) :
    configServed s o number value = { s with
      pointer := o.link
      items := (configServed s o number value).items, claims := (configServed s o number value).claims
      banks := (configServed s o number value).banks, links := (configServed s o number value).links
      lines := (configServed s o number value).lines } := by
  unfold configServed State.pruneAfter
  split <;> rfl

/-- Neither the pruning nor the ACCEPT touches the table or the lines. -/
theorem configServed_stored (s : State) (o : Offer) (number : Nat) (value : BitVec 16) :
    (configServed s o number value).items = (configStored (s.takeRequest o) o.link number value).items ∧
      (configServed s o number value).lines = (configStored (s.takeRequest o) o.link number value).lines := by
  unfold configServed State.pruneAfter
  split <;> exact ⟨rfl, rfl⟩

theorem configServed_item (s : State) (o : Offer) {number : Nat} (h : number < 88) (value : BitVec 16) (n : Nat) :
    (configServed s o number value).item n = if n = number then value else s.item n := by
  have hstored := item_storeItem ((s.takeRequest o).useElements o.link [systemElement]) h value n
  rw [State.item, (configServed_stored s o number value).1]
  exact hstored

theorem configServed_line (s : State) (o : Offer) (number : Nat) (value : BitVec 16) (n : LineIx) :
    (configServed s o number value).line n =
      if number = 64 + n.val then
        { s.line n with
          timer := none, accepted := (s.line n).pin
          driven := drivenLevel s.table ((configServed s o number value).gpiMode n)
            ((configServed s o number value).gpiArg n) }
      else if number = 72 + n.val then
        { s.line n with
          driven := drivenLevel s.table ((configServed s o number value).gpiMode n)
            ((configServed s o number value).gpiArg n) }
      else s.line n := by
  obtain ⟨hitems, hlines⟩ := configServed_stored s o number value
  simp only [State.gpiMode, State.gpiArg, State.item, State.line, hitems, hlines]
  exact line_storeItem ((s.takeRequest o).useElements o.link [systemElement]) number value n

theorem configServed_claim (s : State) (o : Offer) (number : Nat) (value : BitVec 16) (e : ElemIx) :
    (configServed s o number value).claim e =
      if isGroupItem number then (pick (usedClaims o.link [systemElement] s.claims) e).filter fun c =>
        (configServed s o number value).member c.holder e
      else pick (usedClaims o.link [systemElement] s.claims) e := by
  obtain ⟨hitems, -⟩ := configServed_stored s o number value
  simp only [State.member, State.linkInGroup, State.elementGroup, State.item, hitems]
  exact claim_pruneAfter (configStored (s.takeRequest o) o.link number value) number e

theorem configServed_leversFollow (s : State) (o : Offer) (number : Nat) (value : BitVec 16) :
    s.LeversFollowClaims (configServed s o number value) := by
  intro b
  have hpruned := pruneAfter_leversFollow (configStored (s.takeRequest o) o.link number value) number b
  have hclaim : (configStored (s.takeRequest o) o.link number value).claim (transElement b) =
      s.claim (transElement b) := usedSystem_trans o.link s.claims b
  rw [hclaim, configStored_bank] at hpruned
  exact hpruned

theorem configServed_queues (s : State) (o : Offer) (number : Nat) (value : BitVec 16) (l : LinkIx) :
    ((s.takeRequest o).link l).QueuesAll s.now
      (claimReportsFor s.claims (usedClaims o.link [systemElement] s.claims) ++
        (claimReportsFor (usedClaims o.link [systemElement] s.claims) (configServed s o number value).claims ++
          if l = o.link then [.accept o.tag o.body.code (.item number value)] else []))
      ((configServed s o number value).link l) := by
  obtain ⟨u, hu⟩ : ∃ u, u = (configStored (s.takeRequest o) o.link number value).pruneAfter number := ⟨_, rfl⟩
  have hnow : u.now = s.now := by
    rw [hu, congrArg State.now (pruneAfter_frame (configStored (s.takeRequest o) o.link number value) number)]
    rfl
  have hserved : configServed s o number value = u.send o.link (.accept o.tag o.body.code (.item number value)) := by
    rw [hu]; rfl
  have hanswer := send_queuesAll u o.link (.accept o.tag o.body.code (.item number value)) l
  rw [hnow] at hanswer
  rw [hserved, State.send_claims, ← List.append_assoc]
  refine Link.QueuesAll.append ?_ hanswer
  rw [hu]
  exact configStored_queues (s.takeRequest o) o.link number value l

/-- Settles O9: a CONFIG that passes is served as `execConfig_accepted` says, and each clause is a law of the state it
leaves. -/
theorem acceptedConfigStoresItsValue : Obligations.AcceptedConfigStoresItsValue := by
  intro s o item value number v ho hbody hplan hverdict
  obtain ⟨hnumber, hassigned, hvalue⟩ := planConfig_ok hplan
  have hitem := configServed_item s o (assigned_lt hassigned) v
  have hqueues := configServed_queues s o number v
  rw [hbody] at hqueues
  exact ⟨configServed s o number v, execConfig_accepted ho hbody hplan hverdict, configServed_frame s o number v,
    (hitem number).trans (if_pos rfl), fun n hn => (hitem n).trans (if_neg hn), configServed_claim s o number v,
    configServed_line s o number v, hnumber, itemValue_number hassigned hvalue, configServed_leversFollow s o number v,
    hqueues⟩

end Sys2Proof.TransitionArithmetic
end

section
/-! Stored effects (R68, R165, R167, R168): the writes of a STORE, and the reading back of the record it writes. -/

open Sys2Proof Sys2Proof.Machine Sys2Proof.TransitionController

namespace Sys2Proof.TransitionArithmetic

/-! ### Writes from an address upward (R168) -/

@[simp] theorem length_writesFrom (a : Address) (bs : List Byte) : (writesFrom a bs).length = bs.length := by
  simp [writesFrom]

/-- The byte at an offset goes to the address that many on (R159, R168). -/
theorem getElem?_writesFrom (a : Address) (bs : List Byte) (i : Nat) :
    (writesFrom a bs)[i]? = bs[i]?.map fun b => (addressOn a i, b) := by
  rw [writesFrom, List.getElem?_zipWith]
  by_cases h : i < bs.length
  · simp [h]
  · simp [List.getElem?_eq_none (Nat.le_of_not_lt h)]

/-- Where writes go, of as many bytes as are written. -/
theorem mem_writesFrom {a : Address} {bs : List Byte} {w : Address × Byte} (h : w ∈ writesFrom a bs) :
    ∃ i < bs.length, w.1 = addressOn a i := by
  obtain ⟨i, hi⟩ := List.mem_iff_getElem?.mp h
  rw [getElem?_writesFrom] at hi
  obtain ⟨b, hb, rfl⟩ := Option.map_eq_some_iff.mp hi
  exact ⟨i, (List.getElem?_eq_some_iff.mp hb).1, rfl⟩

theorem addressOn_addressOn (a : Address) (j k : Nat) : addressOn (addressOn a j) k = a + BitVec.ofNat 24 (j + k) := by
  rw [addressOn, addressOn, BitVec.ofNat_add, BitVec.add_assoc]

/-! ### Values of two, three and four bytes, the most significant first (R139) -/

theorem bigEndian_three (a : Address) :
    bigEndian 3 a.toNat = [a.extractLsb' 16 8, a.extractLsb' 8 8, a.extractLsb' 0 8] := by
  simp only [bigEndian, List.cons.injEq, and_true]
  refine ⟨?_, ?_, ?_⟩ <;> apply BitVec.eq_of_toNat_eq <;>
    simp [BitVec.extractLsb'_toNat, Nat.shiftRight_eq_div_pow]

theorem bigEndian_crc32 (v : BitVec 32) :
    bigEndian 4 v.toNat = [v.extractLsb' 24 8, v.extractLsb' 16 8, v.extractLsb' 8 8, v.extractLsb' 0 8] := by
  simp only [bigEndian, List.cons.injEq, and_true]
  refine ⟨?_, ?_, ?_, ?_⟩ <;> apply BitVec.eq_of_toNat_eq <;>
    simp [BitVec.extractLsb'_toNat, Nat.shiftRight_eq_div_pow]

/-! ### The writes of a STORE (R168) -/

/-- The descriptor that a STORE writes: its fragment's address, its length, the last flag, the offset 0 (R168). -/
def storedDescriptor (register : Nat) (record : List Byte) : List Byte :=
  [BitVec.extractLsb' 16 8 (slotAddress register + 8), BitVec.extractLsb' 8 8 (slotAddress register + 8),
    BitVec.extractLsb' 0 8 (slotAddress register + 8), BitVec.ofNat 8 (record.length / 256),
    BitVec.ofNat 8 record.length, 0x01, 0x00, 0x00]

/-- The rest of the directory entry that a STORE writes: the chain's address, the length, the CRC-32 (R168). -/
def storedEntry (register : Nat) (record : List Byte) : List Byte :=
  [BitVec.extractLsb' 16 8 (slotAddress register), BitVec.extractLsb' 8 8 (slotAddress register),
    BitVec.extractLsb' 0 8 (slotAddress register), BitVec.ofNat 8 (record.length / 256),
    BitVec.ofNat 8 record.length, BitVec.extractLsb' 24 8 (crc32 record), BitVec.extractLsb' 16 8 (crc32 record),
    BitVec.extractLsb' 8 8 (crc32 record), BitVec.extractLsb' 0 8 (crc32 record)]

/-- The writes of a STORE between the two of its valid flag (R168). -/
def storedMiddle (register : Nat) (record : List Byte) : List (Address × Byte) :=
  writesFrom (addressOn (slotAddress register) 8) record ++
    (writesFrom (slotAddress register) (storedDescriptor register record) ++
      writesFrom (addressOn (directoryAddress register) 1) (storedEntry register record))

theorem storeWrites_eq (register : Nat) (record : List Byte) :
    storeWrites register record =
      (directoryAddress register, 0x00) :: (storedMiddle register record ++ [(directoryAddress register, 0x01)]) := by
  have hdescriptor : bigEndian 3 (addressOn (slotAddress register) 8).toNat ++ bigEndian 2 record.length ++ [1] ++
      bigEndian 2 0 = storedDescriptor register record := by
    rw [bigEndian_three, bigEndian_two, bigEndian_two]
    rfl
  have hentry : bigEndian 3 (slotAddress register).toNat ++ bigEndian 2 record.length ++
      bigEndian 4 (crc32 record).toNat = storedEntry register record := by
    rw [bigEndian_three, bigEndian_two, bigEndian_crc32]
    rfl
  simp only [storeWrites, hdescriptor, hentry]
  simp only [storedMiddle, List.append_assoc]

theorem length_storedMiddle (register : Nat) (record : List Byte) :
    (storedMiddle register record).length = record.length + 17 := by
  simp [storedMiddle, storedDescriptor, storedEntry]

theorem getElem?_storedMiddle_record {register : Nat} {record : List Byte} {i : Nat} (h : i < record.length) :
    (storedMiddle register record)[i]? = some (slotAddress register + BitVec.ofNat 24 (8 + i), record.getD i 0) := by
  rw [storedMiddle, List.getElem?_append_left (by simpa using h), getElem?_writesFrom, addressOn_addressOn]
  simp [h]

theorem getElem?_storedMiddle_descriptor {register : Nat} {record : List Byte} {i : Nat} {v : Byte}
    (h : (storedDescriptor register record)[i]? = some v) :
    (storedMiddle register record)[record.length + i]? = some (slotAddress register + BitVec.ofNat 24 i, v) := by
  obtain ⟨hi, -⟩ := List.getElem?_eq_some_iff.mp h
  rw [storedMiddle, List.getElem?_append_right (by simp), length_writesFrom, Nat.add_sub_cancel_left,
    List.getElem?_append_left (by simpa using hi), getElem?_writesFrom, h]
  rfl

theorem getElem?_storedMiddle_entry {register : Nat} {record : List Byte} {i : Nat} {v : Byte}
    (h : (storedEntry register record)[i]? = some v) :
    (storedMiddle register record)[record.length + 8 + i]? =
      some (directoryAddress register + BitVec.ofNat 24 (1 + i), v) := by
  rw [storedMiddle, List.getElem?_append_right (by simp; omega), length_writesFrom, Nat.add_assoc,
    Nat.add_sub_cancel_left, List.getElem?_append_right (by simp [storedDescriptor]), length_writesFrom]
  have hlength : (storedDescriptor register record).length = 8 := rfl
  rw [hlength, Nat.add_sub_cancel_left, getElem?_writesFrom, h, addressOn_addressOn]
  rfl

/-! ### Places of the memory map (R160) -/

theorem directoryAddress_number {register : Nat} (h : register ≤ 99) :
    (directoryAddress register).toNat = 0x001000 + 10 * register := by
  rw [directoryAddress, BitVec.toNat_ofNat, Nat.mod_eq_of_lt (by omega)]

theorem slotAddress_number {register : Nat} (h : register ≤ 99) :
    (slotAddress register).toNat = 0x002000 + 64 * register := by
  rw [slotAddress, BitVec.toNat_ofNat, Nat.mod_eq_of_lt (by omega)]

theorem addressOn_number {a : Address} {k : Nat} (h : a.toNat + k < 16777216) : (addressOn a k).toNat = a.toNat + k := by
  rw [addressOn, BitVec.toNat_add, BitVec.toNat_ofNat, Nat.mod_eq_of_lt (a := k) (by omega), Nat.mod_eq_of_lt h]

/-- No write between the two of the valid flag goes to the flag's own address (R168). -/
theorem storedMiddle_off_flag {register : Nat} {record : List Byte} (h : register ≤ 99) (hrecord : record.length ≤ 45)
    {w : Address × Byte} (hw : w ∈ storedMiddle register record) : w.1 ≠ directoryAddress register := by
  have hentry := directoryAddress_number h
  have hslot := slotAddress_number h
  intro heq
  rw [storedMiddle, List.mem_append, List.mem_append] at hw
  obtain hw | hw | hw := hw
  · obtain ⟨i, hi, hat⟩ := mem_writesFrom hw
    have hbase : (addressOn (slotAddress register) 8).toNat = _ := addressOn_number (by omega)
    have hplace := congrArg BitVec.toNat (hat.symm.trans heq)
    rw [addressOn_number (by omega)] at hplace
    omega
  · obtain ⟨i, hi, hat⟩ := mem_writesFrom hw
    have hi8 : i < 8 := hi
    have hplace := congrArg BitVec.toNat (hat.symm.trans heq)
    rw [addressOn_number (by omega)] at hplace
    omega
  · obtain ⟨i, hi, hat⟩ := mem_writesFrom hw
    have hi9 : i < 9 := hi
    have hbase : (addressOn (directoryAddress register) 1).toNat = _ := addressOn_number (by omega)
    have hplace := congrArg BitVec.toNat (hat.symm.trans heq)
    rw [addressOn_number (by omega)] at hplace
    omega

/-! ### Bytes that read back (R139, R165) -/

theorem ofNat_toNat_small {v : Nat} (h : v < 256) : (BitVec.ofNat 8 v).toNat = v := by
  rw [BitVec.toNat_ofNat, Nat.mod_eq_of_lt h]

/-- A value of two bytes reads back (R139). -/
theorem fromBytes_two {v : Nat} (h : v < 65536) : fromBytes [BitVec.ofNat 8 (v / 256), BitVec.ofNat 8 v] = v := by
  simp only [fromBytes, List.foldl_cons, List.foldl_nil, BitVec.toNat_ofNat]
  omega

/-- The byte of a valid source reads back (R2). -/
theorem validSource_byte {strapHigh : Bool} {c : Source} (h : sourceValid strapHigh c = true) :
    validSource strapHigh (BitVec.ofNat 8 c.val) = some c := by
  have hbyte : (BitVec.ofNat 8 c.val).toNat = c.val := ofNat_toNat_small (by omega)
  have hcode : (⟨(BitVec.ofNat 8 c.val).toNat, by omega⟩ : Source) = c := Fin.ext hbyte
  rw [validSource, dif_pos (by omega), hcode]
  unfold sourceValid at h
  split
  · rename_i b hb
    rw [hb] at h
    exact if_pos h
  · rfl

theorem kindOf_byte (k : Kind) : kindOf (BitVec.ofNat 8 k.code) = some k := by cases k <;> rfl

theorem directionOf_byte (d : Direction) : directionOf (BitVec.ofNat 8 d.code) = some d := by cases d <;> rfl

theorem borderColourOf_byte (c : BorderColour) : borderColourOf (BitVec.ofNat 8 c.code) = some c := by cases c <;> rfl

theorem patternOf_byte {v : Nat} (h : v ≤ 15) : patternOf (BitVec.ofNat 8 v) = some v := by
  rw [patternOf, ofNat_toNat_small (by omega), if_pos h]

theorem layersOf_byte (set : LayerSet) : layersOf (BitVec.ofNat 8 set.toNat) = some set := by
  have hlt := set.isLt
  rw [layersOf, ofNat_toNat_small (by omega), if_pos (by omega), BitVec.ofNat_toNat, BitVec.setWidth_eq]

theorem keyerOf_byte (k : KeyerIx) : keyerOf (BitVec.ofNat 8 (k.val + 1)) = some k := by
  have hbyte : (BitVec.ofNat 8 (k.val + 1)).toNat = k.val + 1 := ofNat_toNat_small (by omega)
  rw [keyerOf, dif_pos (by omega)]
  exact congrArg some (Fin.ext (by dsimp only; omega))

/-- The flags of a listed keyer read back (R139; log 33). -/
theorem keyerFlags_byte (kind : KeyerType) (invert on : Bool) :
    (if (BitVec.ofNat 8 (kind.code + flagBit 1 invert + flagBit 2 on)).getLsbD 0 then KeyerType.linear else .luma) = kind ∧
      (BitVec.ofNat 8 (kind.code + flagBit 1 invert + flagBit 2 on)).getLsbD 1 = invert ∧
      (BitVec.ofNat 8 (kind.code + flagBit 1 invert + flagBit 2 on)).getLsbD 2 = on := by
  cases kind <;> cases invert <;> cases on <;> decide

/-! ### The snapshot of a record (R167) -/

/-- What a STORE keeps of a keyer (R167). -/
def storedKeyer (y : Keyer) : EffectKeyer :=
  { fill := y.fill, key := y.key, kind := y.kind, invert := y.invert, onAir := y.onAir, clip := y.clip, gain := y.gain }

theorem listedKeyer_eq (k : KeyerIx) (y : Keyer) :
    listedKeyer k y = [BitVec.ofNat 8 (k.val + 1), BitVec.ofNat 8 y.fill.val, BitVec.ofNat 8 y.key.val,
      BitVec.ofNat 8 (y.kind.code + flagBit 1 y.invert + flagBit 2 y.onAir), BitVec.ofNat 8 (y.clip / 256),
      BitVec.ofNat 8 y.clip, BitVec.ofNat 8 (y.gain / 256), BitVec.ofNat 8 y.gain] := by
  simp only [listedKeyer, bigEndian_one, bigEndian_two, List.cons_append, List.nil_append]

/-- Keyers whose sources are valid and whose values are in their ranges (R2, R6). -/
def KeyersInRange (strapHigh : Bool) (r : BankRecord) : Prop :=
  ∀ k, sourceValid strapHigh (r.keyer k).fill = true ∧ sourceValid strapHigh (r.keyer k).key = true ∧
    (r.keyer k).clip ≤ 1023 ∧ (r.keyer k).gain ≤ 1023

theorem keyersInRange_of_inRange {strapHigh : Bool} {r : BankRecord} (h : r.InRange strapHigh) :
    KeyersInRange strapHigh r := by
  obtain ⟨hsources, -, -, -, -, -, hkeyers⟩ := h
  intro k
  have hbus : ∀ c ∈ [(r.keyer k).fill, (r.keyer k).key], c ∈ r.buses := fun c hc =>
    List.mem_cons_of_mem _ (List.mem_cons_of_mem _ (List.mem_flatMap.mpr ⟨k, mem_indices k, hc⟩))
  exact ⟨hsources _ (hbus _ (by simp)), hsources _ (hbus _ (by simp)), hkeyers k⟩

/-- Keyers listed one after another, none twice, are read back, each at its number (R165, R167). -/
theorem parseKeyers_listed {strapHigh : Bool} {r : BankRecord} (h : KeyersInRange strapHigh r) {ks : List KeyerIx}
    (hks : ks.Nodup) :
    parseKeyers strapHigh ks.length (ks.flatMap fun k => listedKeyer k (r.keyer k)) =
      some (tab fun k => if k ∈ ks then some (storedKeyer (r.keyer k)) else none) := by
  induction ks with
  | nil => exact congrArg some (table_ext fun k => by simp)
  | cons k ks ih =>
    obtain ⟨hnew, hks⟩ := List.nodup_cons.mp hks
    obtain ⟨hfill, hkey, hclip, hgain⟩ := h k
    obtain ⟨hkind, hinvert, hon⟩ := keyerFlags_byte (r.keyer k).kind (r.keyer k).invert (r.keyer k).onAir
    rw [List.flatMap_cons, listedKeyer_eq, List.length_cons]
    simp only [List.cons_append, List.nil_append, parseKeyers, keyerOf_byte, validSource_byte hfill,
      validSource_byte hkey, ih hks, pick_tab, if_neg hnew, Option.isSome_none, hkind, hinvert, hon,
      fromBytes_two (show (r.keyer k).clip < 65536 by omega), fromBytes_two (show (r.keyer k).gain < 65536 by omega),
      clampTen, Nat.min_eq_left hclip, Nat.min_eq_left hgain]
    refine congrArg some (table_ext fun j => ?_)
    rw [pick_upd, pick_tab, pick_tab]
    by_cases hj : j = k
    · subst hj
      simp [storedKeyer]
    · simp [hj]

theorem listed_nodup (r : BankRecord) : r.listed.Nodup := (List.nodup_finRange 4).filter _

theorem length_listed_le (r : BankRecord) : r.listed.length ≤ 4 :=
  (List.length_filter_le ..).trans_eq (List.length_finRange ..)

/-- The keyers that a snapshot lists are those an effect keeps (R167). -/
theorem effect_keyers (r : BankRecord) :
    r.effect.keyers = tab fun k => if k ∈ r.listed then some (storedKeyer (r.keyer k)) else none := by
  refine congrArg tab (funext fun k => ?_)
  have hlisted : k ∈ r.listed ↔ ((r.keyer k).onAir || hasKey r.layers k) = true := by simp [BankRecord.listed]
  simp only [hlisted]
  rfl

theorem snapshot_eq (r : BankRecord) :
    r.snapshot = [1, BitVec.ofNat 8 r.a.val, BitVec.ofNat 8 r.b.val, BitVec.ofNat 8 r.kind.code,
        BitVec.ofNat 8 (r.rate / 256), BitVec.ofNat 8 r.rate, BitVec.ofNat 8 r.pattern,
        BitVec.ofNat 8 r.direction.code, BitVec.ofNat 8 r.softness, BitVec.ofNat 8 r.borderWidth,
        BitVec.ofNat 8 r.borderColour.code, BitVec.ofNat 8 r.layers.toNat, BitVec.ofNat 8 r.listed.length] ++
      r.listed.flatMap fun k => listedKeyer k (r.keyer k) := by
  simp only [BankRecord.snapshot, bigEndian_one, bigEndian_two, List.cons_append, List.nil_append]
  rfl

theorem length_snapshot (r : BankRecord) : r.snapshot.length = 13 + 8 * r.listed.length := by
  have hlength : ∀ k, (listedKeyer k (r.keyer k)).length = 8 := fun k => by rw [listedKeyer_eq]; rfl
  simp [snapshot_eq, List.length_flatMap, hlength, Nat.mul_comm 8]
  omega

/-- The check of a recall accepts the snapshot of a record in range, and stages what was stored (R165, R167). -/
theorem parseEffect_snapshot {strapHigh : Bool} {r : BankRecord} (h : r.InRange strapHigh) :
    parseEffect strapHigh r.snapshot = some r.effect := by
  have hkeyers := parseKeyers_listed (keyersInRange_of_inRange h) (listed_nodup r)
  obtain ⟨hsources, hrate, hrate', hpattern, hsoftness, hwidth, -⟩ := h
  have ha : sourceValid strapHigh r.a = true := hsources _ List.mem_cons_self
  have hb : sourceValid strapHigh r.b = true := hsources _ (List.mem_cons_of_mem _ List.mem_cons_self)
  have hlisted := length_listed_le r
  have hcount : (BitVec.ofNat 8 r.listed.length).toNat = r.listed.length := ofNat_toNat_small (by omega)
  have hclamp : clampRate r.rate = r.rate := by simp only [clampRate]; omega
  rw [snapshot_eq]
  simp only [List.cons_append, List.nil_append, parseEffect, hcount, hlisted, and_self, if_true,
    validSource_byte ha, validSource_byte hb, kindOf_byte, patternOf_byte hpattern, directionOf_byte,
    borderColourOf_byte, layersOf_byte, hkeyers, ← effect_keyers, fromBytes_two (show r.rate < 65536 by omega), hclamp,
    ofNat_toNat_small (show r.softness < 256 by omega), ofNat_toNat_small (show r.borderWidth < 256 by omega)]
  rfl

/-- Settles O51: the writes by `storeWrites_eq` and the places of the memory map, the reading back by
`parseEffect_snapshot`. -/
theorem storedRecordReadsBackAsItsEffect : Obligations.StoredRecordReadsBackAsItsEffect := by
  refine ⟨fun register record hregister _ hrecord => ⟨storedMiddle register record, storeWrites_eq register record,
    length_storedMiddle register record, fun w hw => storedMiddle_off_flag hregister hrecord hw,
    fun i hi => getElem?_storedMiddle_record hi, fun i v hv => getElem?_storedMiddle_descriptor hv,
    fun i v hv => getElem?_storedMiddle_entry hv, directoryAddress_number hregister, slotAddress_number hregister⟩,
    fun strapHigh r hr => ⟨length_snapshot r, parseEffect_snapshot hr, ?_⟩⟩
  simp only [recordRead, ne_eq, not_true_eq_false, if_false, parseEffect_snapshot hr]

end Sys2Proof.TransitionArithmetic
end

section
/-! Start-up and the saved configuration block (R67, R170, R171, R183). -/

open Sys2Proof Sys2Proof.Machine Sys2Proof.TransitionController

namespace Sys2Proof.TransitionArithmetic

/-! ### One item of a good block (R183) -/

theorem loadItem_frame (s : State) (entry : Nat × BitVec 16) :
    s.loadItem entry = { s with items := (s.loadItem entry).items, lines := (s.loadItem entry).lines } := by
  unfold State.loadItem
  split
  · split <;> rfl
  · rfl

/-- Storing an item and the end of start-up are independent of each other (R183). -/
theorem loadItem_started (s : State) (entry : Nat × BitVec 16) :
    { s.loadItem entry with cfgDefault := false, running := true } =
      State.loadItem { s with cfgDefault := false, running := true } entry := by
  have hvalue : State.itemValue { s with cfgDefault := false, running := true } entry.1 entry.2 =
      s.itemValue entry.1 entry.2 := rfl
  unfold State.loadItem
  rw [hvalue]
  split
  · split <;> rfl
  · rfl

/-- A number that is not assigned and a value that is refused are skipped (R183). -/
theorem loadItem_skips {s : State} {number : Nat} {value : BitVec 16}
    (h : isItemNumber number = false ∨ (s.codeFault number (s.item (number - 8)).toNat value.toNat).isSome = true) :
    s.loadItem (number, value) = s := by
  unfold State.loadItem
  split
  · rename_i hassigned
    split
    · rename_i v hv
      have hnone := (itemValue_isOk s number value).mp ⟨v, hv⟩
      rw [assigned_eq] at hassigned
      simp [hassigned, hnone] at h
    · rfl
  · rfl

theorem loadItem_stores {s : State} {number : Nat} {value v : BitVec 16} (hassigned : assigned number = true)
    (h : s.itemValue number value = .ok v) : s.loadItem (number, value) = s.storeItem number v := by
  simp only [State.loadItem, hassigned, if_true, h]

/-- Start-up stores one item more: the last of the block, after all those before it (R183). -/
theorem startUp_snoc (s : State) (before : List (Nat × BitVec 16)) (entry : Nat × BitVec 16) :
    s.startUp (some (before ++ [entry])) = (s.startUp (some before)).loadItem entry := by
  rw [State.startUp_append, loadItem_started]
  rfl

/-! ### The block of a SAVE-CONFIG (R139, R170, R171) -/

/-- The value of an item in a table; 0 for a number beyond it. -/
def tableItem (items : Vector (BitVec 16) 88) (n : Nat) : BitVec 16 := if h : n < 88 then pick items ⟨n, h⟩ else 0

/-- Three bytes for each item: its number and its value. -/
def itemBytes (items : Vector (BitVec 16) 88) (n : Nat) : List Byte :=
  [BitVec.ofNat 8 n, BitVec.ofNat 8 ((tableItem items n).toNat / 256), BitVec.ofNat 8 (tableItem items n).toNat]

/-- The block up to its CRC-32. -/
def blockBody (items : Vector (BitVec 16) 88) : List Byte :=
  0x5A :: 0xC3 :: 65 :: assignedItems.flatMap (itemBytes items)

theorem configBlock_eq (items : Vector (BitVec 16) 88) :
    configBlock items = blockBody items ++ bigEndian 4 (crc32 (blockBody items)).toNat := by
  have hitem : ∀ i, bigEndian 1 i ++ bigEndian 2 (if h : i < 88 then (pick items ⟨i, h⟩).toNat else 0) =
      itemBytes items i := fun i => by
    have hvalue : (if h : i < 88 then (pick items ⟨i, h⟩).toNat else 0) = (tableItem items i).toNat := by
      unfold tableItem
      split <;> rfl
    rw [hvalue, bigEndian_one, bigEndian_two]
    rfl
  have hbody : [0x5A, 0xC3] ++ bigEndian 1 assignedItems.length ++ assignedItems.flatMap (fun i =>
      bigEndian 1 i ++ bigEndian 2 (if h : i < 88 then (pick items ⟨i, h⟩).toNat else 0)) = blockBody items := by
    simp only [hitem]
    rfl
  simp only [configBlock, hbody]

theorem length_itemBytes (items : Vector (BitVec 16) 88) (is : List Nat) :
    (is.flatMap (itemBytes items)).length = 3 * is.length := by
  induction is with
  | nil => rfl
  | cons i is ih =>
    rw [List.flatMap_cons, List.length_append, ih, List.length_cons]
    simp only [itemBytes, List.length_cons, List.length_nil]
    omega

theorem length_blockBody (items : Vector (BitVec 16) 88) : (blockBody items).length = 198 := by
  simp only [blockBody, List.length_cons, length_itemBytes]
  rfl

theorem length_configBlock (items : Vector (BitVec 16) 88) : (configBlock items).length = 202 := by
  rw [configBlock_eq, List.length_append, length_blockBody, bigEndian_four]
  rfl

theorem configBlock_counted (items : Vector (BitVec 16) 88) :
    ∃ rest, configBlock items = 0x5A :: 0xC3 :: 65 :: rest := by
  rw [configBlock_eq, blockBody]
  exact ⟨_, rfl⟩

/-- With the signature and the count of 65 items read, 202 bytes make the block, of which 198 are covered (R171). -/
theorem blockRead_counted (rest : List Byte) :
    blockRead (0x5A :: 0xC3 :: 65 :: rest) =
      if rest.length + 3 < 202 then
        .readOn (.loading (0x5A :: 0xC3 :: 65 :: rest)) (BitVec.ofNat 24 (rest.length + 3))
      else if (crc32 (slice (0x5A :: 0xC3 :: 65 :: rest) 0 198)).toNat =
          fromBytes (slice (0x5A :: 0xC3 :: 65 :: rest) 198 4) then
        .loaded (some (blockEntries (slice (0x5A :: 0xC3 :: 65 :: rest) 3 195)))
      else .loaded none := by
  have hcount : fromBytes (slice (0x5A :: 0xC3 :: 65 :: rest) 2 1) = 65 := rfl
  have hsignature : slice (0x5A :: 0xC3 :: 65 :: rest) 0 2 = [0x5A, 0xC3] := rfl
  have hlength : (0x5A :: 0xC3 :: 65 :: rest : List Byte).length = rest.length + 3 := rfl
  have hread : ¬ (rest.length + 3 < 3) := by omega
  simp only [blockRead, blockLength, hcount, hsignature, hlength, hread, if_false, ne_eq, not_true_eq_false, false_or,
    Config.blockItems, show ¬ 80 < 65 by omega, Nat.reduceMul, Nat.reduceAdd, Nat.reduceSub]

/-- Before its last byte a block is read on, at the next address (R171). -/
theorem blockRead_leading (items : Vector (BitVec 16) 88) {n : Nat} (h : n < 202) :
    blockRead ((configBlock items).take n) = .readOn (.loading ((configBlock items).take n)) (BitVec.ofNat 24 n) := by
  have hlength : ((configBlock items).take n).length = n := by
    rw [List.length_take, length_configBlock, Nat.min_eq_left (by omega)]
  obtain hshort | ⟨m, rfl⟩ : n < 3 ∨ ∃ m, n = m + 3 := by
    by_cases hn : n < 3
    · exact .inl hn
    · exact .inr ⟨n - 3, by omega⟩
  · simp only [blockRead, hlength, hshort, if_true]
  · obtain ⟨rest, hrest⟩ := configBlock_counted items
    have htake : (configBlock items).take (m + 3) = 0x5A :: 0xC3 :: 65 :: rest.take m := by
      rw [hrest]
      rfl
    rw [htake] at hlength ⊢
    have hm : (rest.take m).length + 3 = m + 3 := hlength
    rw [blockRead_counted, hm, if_pos h]

/-- The four bytes of a CRC-32 read back (R139). -/
theorem fromBytes_crc32 (v : BitVec 32) : fromBytes (bigEndian 4 v.toNat) = v.toNat := by
  have hlt := v.isLt
  simp only [bigEndian_four, fromBytes, List.foldl_cons, List.foldl_nil, BitVec.toNat_ofNat]
  omega

/-- The items of a block, read back in their order (R139, R171). -/
theorem blockEntries_itemBytes (items : Vector (BitVec 16) 88) {is : List Nat} (h : ∀ i ∈ is, i < 256) :
    blockEntries (is.flatMap (itemBytes items)) = is.map fun i => (i, tableItem items i) := by
  induction is with
  | nil => rfl
  | cons i is ih =>
    obtain ⟨hi, his⟩ := List.forall_mem_cons.mp h
    rw [List.flatMap_cons, itemBytes, List.cons_append, List.cons_append, List.cons_append, List.nil_append,
      blockEntries, ih his, fromBytes_two (tableItem items i).isLt, ofNat_toNat_small hi, BitVec.ofNat_toNat,
      BitVec.setWidth_eq]
    rfl

/-- An assigned item of a table with its number (R170). -/
def savedEntry (items : Vector (BitVec 16) 88) (n : Nat) : Option (Nat × BitVec 16) :=
  if assigned n then some (n, tableItem items n) else none

theorem assignedItems_eq : assignedItems = (List.range 88).filter assigned := by decide

/-- The entries that a block lists: the assigned items in increasing number (R170, R179). -/
theorem savedEntries_eq (items : Vector (BitVec 16) 88) :
    (assignedItems.map fun i => (i, tableItem items i)) = (List.range 88).filterMap (savedEntry items) := by
  rw [assignedItems_eq, ← List.filterMap_eq_map, List.filterMap_filter]
  rfl

theorem savedEntries_finRange (items : Vector (BitVec 16) 88) :
    (List.range 88).filterMap (savedEntry items) =
      (List.finRange 88).filterMap fun i => if assigned i.val then some (i.val, pick items i) else none := by
  rw [← List.map_coe_finRange_eq_range, List.filterMap_map]
  refine List.filterMap_congr fun i _ => ?_
  simp only [Function.comp_apply, savedEntry, tableItem, dif_pos i.isLt]

/-- A block read whole is good, and hands start-up its items (R170, R171). -/
theorem blockRead_whole (items : Vector (BitVec 16) 88) :
    blockRead (configBlock items) = .loaded (some ((List.range 88).filterMap (savedEntry items))) := by
  obtain ⟨rest, hrest⟩ := configBlock_counted items
  have hlength : rest.length + 3 = 202 := by
    rw [← length_configBlock items, hrest]
    rfl
  have hbody : slice (configBlock items) 0 198 = blockBody items := by
    rw [slice, List.drop_zero, configBlock_eq, List.take_left' (length_blockBody items)]
  have hcrc : slice (configBlock items) 198 4 = bigEndian 4 (crc32 (blockBody items)).toNat := by
    rw [slice, configBlock_eq, List.drop_left' (length_blockBody items)]
    rfl
  have hitems : slice (configBlock items) 3 195 = assignedItems.flatMap (itemBytes items) := by
    rw [slice, configBlock_eq, blockBody]
    exact List.take_left' (length_itemBytes items assignedItems)
  rw [hrest, blockRead_counted, hlength, if_neg (Nat.lt_irrefl _), ← hrest, hbody, hcrc, fromBytes_crc32, if_pos rfl,
    hitems, blockEntries_itemBytes items (by decide), savedEntries_eq]

/-! ### The items of a block stored one after another (R183) -/

theorem tableItem_eq (s : State) (n : Nat) : s.item n = tableItem s.items n := rfl

/-- What an item takes depends on the strap and, for a GPI_ARG, on the GPI_MODE of its line (R180). -/
theorem itemValue_congr {s t : State} {number : Nat} (hstrap : t.strapHigh = s.strapHigh)
    (hmode : 72 ≤ number → number ≤ 79 → t.item (number - 8) = s.item (number - 8)) (value : BitVec 16) :
    t.itemValue number value = s.itemValue number value := by
  unfold State.itemValue
  split
  · rfl
  · split
    · rename_i harg
      rw [hstrap, hmode harg.1 harg.2]
    · rfl

/-- After the items below a number the table has them, whatever it held before (R170, R183). -/
theorem loadItems_saved {s : State} {items : Vector (BitVec 16) 88}
    (h : ∀ i : Fin 88, assigned i.val = true →
      State.itemValue { s with items := items } i.val (pick items i) = .ok (pick items i)) {n : Nat} (hn : n ≤ 88) :
    (((List.range n).filterMap (savedEntry items)).foldl State.loadItem s).strapHigh = s.strapHigh ∧
      ∀ i < n, assigned i = true →
        (((List.range n).filterMap (savedEntry items)).foldl State.loadItem s).item i = tableItem items i := by
  induction n with
  | zero => exact ⟨rfl, fun i hi => absurd hi (Nat.not_lt_zero i)⟩
  | succ n ih =>
    obtain ⟨hstrap, hbelow⟩ := ih (by omega)
    rw [List.range_succ, List.filterMap_append, List.foldl_append]
    by_cases hassigned : assigned n = true
    · have hentry : [n].filterMap (savedEntry items) = [(n, tableItem items n)] := by simp [savedEntry, hassigned]
      have htable : tableItem items n = pick items ⟨n, by omega⟩ := dif_pos _
      have htaken := h ⟨n, by omega⟩ hassigned
      rw [← htable] at htaken
      have hvalue := (itemValue_congr (s := { s with items := items }) hstrap (fun hlow hhigh =>
        hbelow (n - 8) (by omega) (by
          rw [assigned_eq, isItemNumber, decide_eq_true_iff]
          omega)) (tableItem items n)).trans htaken
      rw [hentry, List.foldl_cons, List.foldl_nil, loadItem_stores hassigned hvalue]
      refine ⟨hstrap, fun i hi hi' => ?_⟩
      rw [item_storeItem _ (assigned_lt hassigned)]
      split
      · rename_i heq
        rw [heq]
      · exact hbelow i (by omega) hi'
    · have hentry : [n].filterMap (savedEntry items) = [] := by simp [savedEntry, hassigned]
      rw [hentry, List.foldl_nil]
      refine ⟨hstrap, fun i hi hi' => hbelow i ?_ hi'⟩
      have hne : i ≠ n := fun heq => hassigned (heq ▸ hi')
      omega

/-- Settles O52: one item after another by the laws of `loadItem`, the saved block by `blockRead_leading` and
`blockRead_whole`, its items by `loadItems_saved`. -/
theorem savedBlockLoadsEveryItem : Obligations.SavedBlockLoadsEveryItem := by
  refine ⟨fun s => ⟨rfl, rfl, fun before number value => ⟨_, _, rfl, rfl, ?_, fun h => ?_, fun hassigned hfault => ?_⟩⟩,
    fun items => ⟨length_configBlock items, fun n hn => ⟨_, blockRead_leading items hn, rfl⟩, ?_,
      fun s h => ⟨_, rfl, rfl, rfl, fun i hi => ?_⟩⟩⟩
  · rw [startUp_snoc]
    exact loadItem_frame _ _
  · rw [startUp_snoc]
    exact loadItem_skips h
  · rw [← assigned_eq] at hassigned
    obtain ⟨v, hv⟩ := (itemValue_isOk (s.startUp (some before)) number value).mpr hfault
    have hitem := item_storeItem (s.startUp (some before)) (assigned_lt hassigned) v
    rw [startUp_snoc, loadItem_stores hassigned hv]
    refine ⟨?_, fun n hn => (hitem n).trans (if_neg hn), line_storeItem _ number v⟩
    rw [hitem, if_pos rfl, itemValue_number hassigned hv]
  · rw [blockRead_whole, savedEntries_finRange]
  · rw [← savedEntries_finRange]
    obtain ⟨-, hstored⟩ := loadItems_saved h (Nat.le_refl 88)
    have hat := hstored i.val i.isLt hi
    rw [tableItem_eq, tableItem, tableItem, dif_pos i.isLt, dif_pos i.isLt] at hat
    exact hat

end Sys2Proof.TransitionArithmetic
end

section
/-! The bounds of lists, queues, budget, reference and items (R67, R72, R82, R117, R149, R152, R180), part by part: which
changes of a list, of a link's queues, of the reference and of the table stay within them. -/

open Sys2Proof Sys2Proof.Machine Sys2Proof.TransitionController

namespace Sys2Proof.TransitionArithmetic

/-! ### The schedule list (R71, R72) -/

/-- A list of entries that come from another's: no more of them, each with the linked-set mark of an entry there and a
take if that one is. -/
def EntriesFrom (old new : List Entry) : Prop :=
  new.length ≤ old.length ∧
    ∀ e ∈ new, ∃ x ∈ old, e.linked = x.linked ∧ e.action.isTake = x.action.isTake

theorem EntriesFrom.refl (list : List Entry) : EntriesFrom list list :=
  ⟨Nat.le_refl _, fun e he => ⟨e, he, rfl, rfl⟩⟩

theorem EntriesFrom.of_sublist {old new : List Entry} (h : new.Sublist old) : EntriesFrom old new :=
  ⟨h.length_le, fun e he => ⟨e, h.subset he, rfl, rfl⟩⟩

theorem EntriesFrom.map {f : Entry → Entry} (list : List Entry)
    (hf : ∀ e, (f e).linked = e.linked ∧ (f e).action.isTake = e.action.isTake) : EntriesFrom list (list.map f) := by
  refine ⟨(List.length_map ..).le, fun e he => ?_⟩
  obtain ⟨x, hx, rfl⟩ := List.mem_map.mp he
  exact ⟨x, hx, hf x⟩

theorem EntriesFrom.append {old old' new new' : List Entry} (h : EntriesFrom old new) (h' : EntriesFrom old' new') :
    EntriesFrom (old ++ old') (new ++ new') := by
  obtain ⟨hlength, hfrom⟩ := h
  obtain ⟨hlength', hfrom'⟩ := h'
  refine ⟨?_, fun e he => ?_⟩
  · rw [List.length_append, List.length_append]
    exact Nat.add_le_add hlength hlength'
  · obtain he | he := List.mem_append.mp he
    · obtain ⟨x, hx, hsame⟩ := hfrom e he
      exact ⟨x, List.mem_append_left _ hx, hsame⟩
    · obtain ⟨x, hx, hsame⟩ := hfrom' e he
      exact ⟨x, List.mem_append_right _ hx, hsame⟩

theorem markStaged_from (b : BankIx) (e : Entry) :
    (markStaged b e).linked = e.linked ∧ (markStaged b e).action.isTake = e.action.isTake := by
  unfold markStaged
  split
  · rename_i ha
    split
    · exact ⟨rfl, by simp only [ha, Action.isTake]⟩
    · exact ⟨rfl, rfl⟩
  · exact ⟨rfl, rfl⟩

theorem length_insertEntry (e : Entry) (list : List Entry) : (insertEntry e list).length = list.length + 1 := by
  induction list with
  | nil => rfl
  | cons x rest ih =>
    unfold insertEntry
    split
    · rw [List.length_cons, ih, List.length_cons]
    · rfl

theorem length_insertEntries (es list : List Entry) : (insertEntries es list).length = list.length + es.length := by
  induction es generalizing list with
  | nil => rfl
  | cons e es ih =>
    have hstep : insertEntries (e :: es) list = insertEntries es (insertEntry e list) := rfl
    rw [hstep, ih, length_insertEntry, List.length_cons]
    omega

/-! ### The queues of a link (R117) -/

/-- A link's queues within their places, with at most one LEVER for each bank number (R117). -/
def QueuesFit (k : Link) : Prop :=
  k.takeQ.length ≤ Config.takePlaces ∧ k.setupQ.length ≤ Config.setupPlaces ∧
    (k.takeQ.filterMap fun r => r.body.leverBank).Nodup

/-- A link's queues hold requests of another link's, in their order. -/
def QueuesFrom (k j : Link) : Prop := j.takeQ.Sublist k.takeQ ∧ j.setupQ.Sublist k.setupQ

theorem QueuesFrom.refl (k : Link) : QueuesFrom k k := ⟨.refl _, .refl _⟩

theorem QueuesFrom.of_eq {k j : Link} (ht : j.takeQ = k.takeQ) (hs : j.setupQ = k.setupQ) : QueuesFrom k j :=
  ⟨ht ▸ .refl _, hs ▸ .refl _⟩

theorem QueuesFrom.fit {k j : Link} (h : QueuesFrom k j) (hk : QueuesFit k) : QueuesFit j := by
  obtain ⟨htake, hsetup⟩ := h
  obtain ⟨htakes, hsetups, hlevers⟩ := hk
  exact ⟨htake.length_le.trans htakes, hsetup.length_le.trans hsetups, hlevers.sublist (htake.filterMap _)⟩

theorem sends_queuesFrom {k j : Link} (h : j.SendsFrom k) : QueuesFrom k j := by
  unfold Link.SendsFrom at h
  rw [h]
  exact .of_eq rfl rfl

theorem place_queuesFrom (now : Micros) (f : TxFrame) (k : Link) : QueuesFrom k (k.place now f) :=
  sends_queuesFrom (k.place_sends now f)

theorem kick_queuesFrom (now : Micros) (k : Link) : QueuesFrom k (k.kick now) :=
  sends_queuesFrom (k.kick_spec now).2

theorem flow_queuesFrom (now : Micros) (f : Flow) (k : Link) : QueuesFrom k (k.flow now f) := by
  unfold Link.flow
  split
  · exact .refl _
  · exact kick_queuesFrom now { k with slot := some f }

theorem foldl_place_queuesFrom (now : Micros) (fs : List TxFrame) (k : Link) :
    QueuesFrom k (fs.foldl (fun k f => k.place now f) k) := by
  induction fs generalizing k with
  | nil => exact .refl k
  | cons f fs ih =>
    obtain ⟨htake, hsetup⟩ := place_queuesFrom now f k
    obtain ⟨htakes, hsetups⟩ := ih (k.place now f)
    exact ⟨htakes.trans htake, hsetups.trans hsetup⟩

theorem leaveTake_queuesFrom (k : Link) : QueuesFrom k k.leaveTake := ⟨List.tail_sublist _, .refl _⟩

theorem leaveSetup_queuesFrom (now : Micros) (k : Link) : QueuesFrom k (k.leaveSetup now) := by
  have htail : QueuesFrom k { k with setupQ := k.setupQ.tail, takeRun := 0 } := ⟨.refl _, List.tail_sublist _⟩
  unfold Link.leaveSetup
  dsimp only
  split
  · obtain ⟨htake, hsetup⟩ :=
      flow_queuesFrom now .resume { k with setupQ := k.setupQ.tail, takeRun := 0, holdOff := false }
    exact ⟨htake, hsetup.trans htail.2⟩
  · exact htail

/-- A LEVER that takes the place of the one waiting for its bank number leaves as many requests, for the same bank
numbers (R117). -/
theorem replaceLever_same (r : Request) (queue : List Request) :
    (replaceLever r queue).length = queue.length ∧
      (replaceLever r queue).filterMap (fun x => x.body.leverBank) = queue.filterMap fun x => x.body.leverBank := by
  induction queue with
  | nil => exact ⟨rfl, rfl⟩
  | cons x rest ih =>
    obtain ⟨hlength, hbanks⟩ := ih
    unfold replaceLever
    split
    · rename_i hsame
      exact ⟨rfl, by simp only [List.filterMap_cons, hsame]⟩
    · exact ⟨by rw [List.length_cons, hlength, List.length_cons], by simp only [List.filterMap_cons, hbanks]⟩

/-- A request that finds no LEVER for its bank number waiting brings no second one (R117). -/
theorem levers_append {r : Request} {queue : List Request} (hnew : leverWaits r queue = false)
    (h : (queue.filterMap fun x => x.body.leverBank).Nodup) :
    ((queue ++ [r]).filterMap fun x => x.body.leverBank).Nodup := by
  rw [List.filterMap_append]
  cases hr : r.body.leverBank with
  | none => simpa [hr] using h
  | some b =>
    refine List.nodup_append.mpr ⟨h, by simp [hr], fun c hc d hd heq => ?_⟩
    obtain ⟨x, hx, hxc⟩ := List.mem_filterMap.mp hc
    have hd : d = b := by simpa [hr] using hd
    have hwaits : leverWaits r queue = true := by
      simp only [leverWaits, hr, Option.isSome_some, Bool.true_and, List.any_eq_true]
      exact ⟨x, hx, by simp [hxc, heq, hd]⟩
    simp [hwaits] at hnew

theorem joinSetup_fit {k : Link} (h : QueuesFit k) (hroom : k.setupQ.length < Config.setupPlaces) (now : Micros)
    (r : Request) : QueuesFit (k.joinSetup now r) := by
  obtain ⟨htakes, -, hlevers⟩ := h
  have hjoined : QueuesFit { k with setupQ := k.setupQ ++ [r] } :=
    ⟨htakes, by rw [List.length_append]; exact hroom, hlevers⟩
  unfold Link.joinSetup
  dsimp only
  split
  · exact (flow_queuesFrom now .holdOff { k with setupQ := k.setupQ ++ [r], holdOff := true }).fit hjoined
  · exact hjoined

/-- A good frame's request replaces a LEVER, finds its queue full, or joins a queue that has a place (R117, R118). -/
theorem arrive_fit {k : Link} (h : QueuesFit k) (now : Micros) (room : Bool) (r : Request) :
    QueuesFit (k.arrive now room r) := by
  obtain ⟨htakes, hsetups, hlevers⟩ := h
  unfold Link.arrive
  split
  · obtain ⟨hlength, hbanks⟩ := replaceLever_same r k.takeQ
    exact ⟨hlength.le.trans htakes, hsetups, hbanks ▸ hlevers⟩
  · rename_i hnew
    split
    · dsimp only
      split
      · exact (place_queuesFrom now _ { k with overflow := countUp k.overflow }).fit ⟨htakes, hsetups, hlevers⟩
      · exact ⟨htakes, hsetups, hlevers⟩
    · rename_i hroom
      split
      · rename_i hqueue
        have hplace : k.takeQ.length < Config.takePlaces := by simpa [Link.queueIsFull, hqueue] using hroom
        exact ⟨by rw [List.length_append]; exact hplace, hsetups, levers_append (by simpa using hnew) hlevers⟩
      · rename_i hqueue
        have hplace : k.setupQ.length < Config.setupPlaces := by simpa [Link.queueIsFull, hqueue] using hroom
        exact joinSetup_fit ⟨htakes, hsetups, hlevers⟩ hplace now r

theorem discardFrame_queuesFrom (k : Link) : QueuesFrom k k.discardFrame := ⟨.refl _, .refl _⟩

theorem checkGap_queuesFrom (now : Micros) (k : Link) : QueuesFrom k (k.checkGap now) := by
  unfold Link.checkGap
  split
  · split
    · exact discardFrame_queuesFrom k
    · exact .refl k
  · exact .refl k

/-- A byte keeps the queues within their places: only a whole good frame reaches them (R114 to R118). -/
theorem takeByte_fit {k : Link} (h : QueuesFit k) (now : Micros) (room : Bool) (y : RxByte) :
    QueuesFit (k.takeByte now room y) := by
  have hdiscarded := (discardFrame_queuesFrom k).fit h
  unfold Link.takeByte
  split
  · split_ifs
    · exact h
    · exact hdiscarded
    · exact h
  · dsimp only
    split_ifs
    · exact hdiscarded
    · exact h
    · exact hdiscarded
    · exact h
    · exact arrive_fit (k := { k with receiver := .hunting }) h now room _
    · exact hdiscarded

/-! ### The measured period and the spurious count (R149, R152) -/

/-- The reference within its bounds (R149, R152). -/
def RefFits (r : FieldRef) : Prop :=
  Config.shortestField ≤ r.period ∧ r.period ≤ Config.longestField ∧ r.spurious ≤ Config.countLimit

theorem clampPeriod_fits (interval : Micros) :
    Config.shortestField ≤ clampPeriod interval ∧ clampPeriod interval ≤ Config.longestField :=
  ⟨Nat.le_max_left .., Nat.max_le.mpr ⟨by decide, Nat.min_le_right ..⟩⟩

theorem spuriousPulse_fits {r : FieldRef} (h : RefFits r) : RefFits r.spuriousPulse := by
  obtain ⟨hlow, hhigh, -⟩ := h
  exact ⟨hlow, hhigh, Nat.min_le_right ..⟩

theorem realStart_fits {r : FieldRef} (h : RefFits r) (now : Micros) : RefFits (r.realStart now) := by
  obtain ⟨hlow, hhigh, hcount⟩ := h
  unfold FieldRef.realStart
  dsimp only
  split
  · obtain ⟨hleast, hmost⟩ := clampPeriod_fits (now - r.lastStart)
    exact ⟨hleast, hmost, hcount⟩
  · exact ⟨hlow, hhigh, hcount⟩

/-! ### The items (R67, R179, R180) -/

/-- An item's value in its range, or a code without spare bits (R67, R179, R180). -/
def ItemFits (number : Nat) (v : BitVec 16) : Prop :=
  if 64 ≤ number ∧ number ≤ 71 then modeValue v = some v
  else if 72 ≤ number ∧ number ≤ 79 then True
  else (itemRange number).1 ≤ v.toNat ∧ v.toNat ≤ (itemRange number).2

/-- A GPI_MODE once stored would be stored again as it stands (R180). -/
theorem modeValue_stored {value v : BitVec 16} (h : modeValue value = some v) : modeValue v = some v := by
  have hlt := value.isLt
  have hv := modeValue_number h
  rw [modeValue_eq] at h ⊢
  split_ifs at h hv
  · rw [if_pos (by omega), if_pos (by omega)]
    refine congrArg some (BitVec.eq_of_toNat_eq ?_)
    rw [BitVec.toNat_and]
    refine (and_outBits _).trans ?_
    omega
  · rw [if_neg (by omega), if_pos (by omega)]
    refine congrArg some (BitVec.eq_of_toNat_eq ?_)
    rw [BitVec.toNat_and]
    refine (and_inBits _).trans ?_
    omega

theorem itemRange_ordered (number : Nat) : (itemRange number).1 ≤ (itemRange number).2 := by
  unfold itemRange
  split_ifs <;> decide

/-- What an item takes fits it (R67, R180). -/
theorem itemValue_fits {s : State} {number : Nat} {value v : BitVec 16} (h : s.itemValue number value = .ok v) :
    ItemFits number v := by
  unfold State.itemValue at h
  unfold ItemFits
  split_ifs at h ⊢
  · exact modeValue_stored (named_eq_ok h)
  · cases h
    have hrange := itemRange_le number
    have hordered := itemRange_ordered number
    rw [clampItem, BitVec.toNat_ofNat, Nat.mod_eq_of_lt (by omega)]
    omega

/-- The defaults of every assigned item fit it (R179). -/
theorem defaultItem_fits (strapHigh : Bool) (number : Fin 88) (h : assigned number.val = true) :
    ItemFits number.val (defaultItem strapHigh number.val) := by
  revert strapHigh number
  unfold ItemFits
  decide +kernel

end Sys2Proof.TransitionArithmetic
end

section
/-! The bounds of lists, queues, budget, reference and items (R67, R72, R82, R117, R149, R152, R180) under every operation
on the state. -/

open Sys2Proof Sys2Proof.Machine Sys2Proof.TransitionController

namespace Sys2Proof.TransitionArithmetic

/-! ### What a change keeps -/

/-- Each bound that holds of `s` holds of `t`. -/
structure Keeps (s t : State) : Prop where
  schedule : s.ScheduleBounded → t.ScheduleBounded
  queues : s.QueuesBounded → t.QueuesBounded
  budget : s.BudgetKept → t.BudgetKept
  reference : s.ReferenceLegal → t.ReferenceLegal
  items : s.ItemsLegal → t.ItemsLegal

theorem Keeps.refl (s : State) : Keeps s s := ⟨id, id, id, id, id⟩

theorem itemsLegal_iff (s : State) :
    s.ItemsLegal ↔ ∀ number : Fin 88, assigned number.val = true → ItemFits number.val (pick s.items number) := Iff.rfl

/-- A linked entry is a take where each entry comes from one that is (R71). -/
theorem linkedTakes_from {s t : State} (h : EntriesFrom s.schedule t.schedule) (hs : s.LinkedTakes) : t.LinkedTakes := by
  intro e he hlinked
  obtain ⟨x, hx, hsame, htake⟩ := h.2 e he
  rw [htake]
  exact hs x hx (hsame ▸ hlinked)

section
variable {r s : State} (h : Keeps r s)
include h

/-- The bounds are kept where the list and the queues lose what they lose, the sweep stays within its budget, and
reference and table stay within their bounds. -/
theorem Keeps.to {t : State} (hentries : EntriesFrom s.schedule t.schedule)
    (hqueues : ∀ l, QueuesFrom (s.link l) (t.link l))
    (hsweep : r.BudgetKept → ∀ w, t.sweep = some w → w.used ≤ Config.crosspointBudget)
    (href : RefFits s.ref → RefFits t.ref) (hitems : s.ItemsLegal → t.ItemsLegal) : Keeps r t where
  schedule hr := hentries.1.trans (h.schedule hr)
  queues hr l := (hqueues l).fit (h.queues hr l)
  budget hr := ⟨linkedTakes_from hentries (h.budget hr).1, hsweep hr⟩
  reference hr := href (h.reference hr)
  items hr := hitems (h.items hr)

/-- The bounds are kept where the list, the sweep, the reference and the table stay, and the queues gain nothing. -/
theorem Keeps.frame {t : State} (hqueues : ∀ l, QueuesFrom (s.link l) (t.link l))
    (hschedule : t.schedule = s.schedule := by rfl) (hsweep : t.sweep = s.sweep := by rfl)
    (href : t.ref = s.ref := by rfl) (hitems : t.items = s.items := by rfl) : Keeps r t :=
  h.to (hschedule ▸ .refl _) hqueues (fun hr w hw => (h.budget hr).2 w (hsweep ▸ hw)) (fun hf => href ▸ hf) fun hi => by
    rw [itemsLegal_iff, hitems]
    exact hi

/-- The bounds are kept where no part of the state that they speak of changes. -/
theorem Keeps.same {t : State} (hlinks : t.links = s.links := by rfl) (hschedule : t.schedule = s.schedule := by rfl)
    (hsweep : t.sweep = s.sweep := by rfl) (href : t.ref = s.ref := by rfl) (hitems : t.items = s.items := by rfl) :
    Keeps r t :=
  h.frame (fun l => by rw [State.link, State.link, hlinks]; exact .refl _) hschedule hsweep href hitems

/-- The bounds are kept where the entries come from the list and nothing else that they speak of changes. -/
theorem Keeps.entries {t : State} (hentries : EntriesFrom s.schedule t.schedule) (hlinks : t.links = s.links := by rfl)
    (hsweep : t.sweep = s.sweep := by rfl) (href : t.ref = s.ref := by rfl) (hitems : t.items = s.items := by rfl) :
    Keeps r t :=
  h.to hentries (fun l => by rw [State.link, State.link, hlinks]; exact .refl _)
    (fun hr w hw => (h.budget hr).2 w (hsweep ▸ hw)) (fun hf => href ▸ hf) fun hi => by
      rw [itemsLegal_iff, hitems]
      exact hi

/-! ### Links, claims and levers -/

theorem Keeps.modLink (l : LinkIx) {f : Link → Link} (hf : QueuesFrom (s.link l) (f (s.link l))) :
    Keeps r (s.modLink l f) :=
  h.frame fun m => by
    by_cases hm : m = l
    · subst hm
      rwa [State.link_modLink_same]
    · rw [State.link_modLink_other s hm]
      exact .refl _

theorem Keeps.send (l : LinkIx) (f : TxFrame) : Keeps r (s.send l f) :=
  h.modLink l (place_queuesFrom s.now f _)

theorem Keeps.notify (o : Origin) (reason : Reason) (b : Option BankIx) : Keeps r (s.notify o reason b) := by
  cases o with
  | link p tag => exact h.send p _
  | line n => exact h.same

theorem Keeps.setClaims (claims : Vector (Option Claim) 25) : Keeps r (s.setClaims claims) :=
  h.frame fun l => sends_queuesFrom (State.setClaims_sends s claims l)

theorem Keeps.linkLost (l : LinkIx) : Keeps r (s.linkLost l) :=
  Keeps.setClaims (s := s.clearLeversOf l) h.same _

theorem Keeps.settle (l : LinkIx) : Keeps r (s.settle l) := by
  unfold State.settle
  split
  · exact h
  · exact h.linkLost l

/-- A change of one link that keeps its queues within their places. -/
theorem Keeps.modLinkFit (l : LinkIx) {f : Link → Link} (hf : QueuesFit (s.link l) → QueuesFit (f (s.link l))) :
    Keeps r (s.modLink l f) where
  schedule := h.schedule
  queues hr m := by
    by_cases hm : m = l
    · subst hm
      rw [State.link_modLink_same]
      exact hf (h.queues hr m)
    · rw [State.link_modLink_other s hm]
      exact h.queues hr m
  budget := h.budget
  reference := h.reference
  items := h.items

theorem Keeps.byteIn (l : LinkIx) (y : RxByte) (dt : Micros) : Keeps r (s.byteIn l y dt) := by
  refine Keeps.modLinkFit (s := s.after dt) h.same l fun hfit => ?_
  split
  · exact takeByte_fit ((checkGap_queuesFrom _ _).fit hfit) _ _ y
  · exact hfit

/-! ### The schedule list (R71, R72, R73) -/

/-- New entries for which the list has room keep to its places; several of them are takes (R71, R73). -/
theorem Keeps.insertAction (due : FieldNo) (o : Origin) {bs : List BankIx} {a : Action}
    (hroom : bs.length ≤ s.freePlaces) (htake : 2 ≤ bs.length → a.isTake = true) :
    Keeps r (s.insertAction due o bs a) where
  schedule hr := by
    have hlength : (s.insertAction due o bs a).schedule.length = s.schedule.length + bs.length := by
      simp only [State.insertAction, length_insertEntries, newEntries, List.length_map]
    have hbounded := h.schedule hr
    unfold State.freePlaces at hroom
    unfold State.ScheduleBounded at hbounded ⊢
    omega
  queues := h.queues
  budget hr := by
    obtain ⟨hlinked, hused⟩ := h.budget hr
    refine ⟨fun e he hmark => ?_, hused⟩
    obtain he | he := mem_insertEntries.mp he
    · obtain ⟨b, -, rfl⟩ := List.mem_map.mp he
      refine htake ?_
      by_contra hone
      simp [newEntry, hone] at hmark
    · exact hlinked e he hmark
  reference := h.reference
  items := h.items

omit h in
/-- A supersede leaves the list without a recall of its bank (R88). -/
theorem supersede_schedule (s : State) (b : BankIx) :
    (s.supersede b).schedule = s.schedule.filter fun e => !e.isRecallOf b := by
  unfold State.supersede
  split
  · rfl
  · rename_i hnone
    refine (List.filter_eq_self.mpr fun e he => ?_).symm
    simpa using List.find?_eq_none.mp hnone e he

theorem Keeps.supersede (b : BankIx) : Keeps r (s.supersede b) := by
  unfold State.supersede
  split
  · exact Keeps.notify (s := s.dropRecall b) (h.entries (.of_sublist List.filter_sublist)) ..
  · exact h

/-- A RECALL inserted where a place is free once the older recall has left (R73, R85, R88). -/
theorem Keeps.insertRecall (due : FieldNo) (o : Origin) {b : BankIx} (register : Nat)
    (hroom : 1 ≤ s.freePlacesForRecall b) : Keeps r (s.insertRecall due o b register) := by
  have hplace : [b].length ≤ (s.supersede b).freePlaces := by
    rw [State.freePlaces, supersede_schedule]
    exact hroom
  have hentry : Keeps r ((s.supersede b).insertAction due o [b] (.recallEffect register false)) :=
    (h.supersede b).insertAction due o hplace fun htwo => absurd htwo (by simp)
  exact hentry.same

/-! ### The sweep (R76 to R84) -/

theorem Keeps.endSweep (n : FieldNo) : Keeps r (s.endSweep n) :=
  h.to (.refl _) (fun _ => .refl _) (fun _ w hw => by cases hw) id id

theorem Keeps.settleSweep : Keeps r s.settleSweep := by
  unfold State.settleSweep
  split
  · split
    · exact h.endSweep _
    · exact h
  · exact h

/-- A sweep begins with nothing used of its budget (R76, R82). -/
theorem Keeps.startSweep (n : FieldNo) : Keeps r (s.startSweep n) := by
  refine Keeps.settleSweep (h.to (.map _ fun e => ⟨rfl, rfl⟩) (fun _ => .refl _) (fun _ w hw => ?_) id id)
  cases hw
  exact Nat.zero_le _

theorem Keeps.refuseEntry (e : Entry) (reason : Reason) : Keeps r (s.refuseEntry e reason) := by
  unfold State.refuseEntry
  split
  · exact Keeps.notify (h.same) ..
  · exact h.notify ..

theorem Keeps.refuseEntries (es : List Entry) (reason : Reason) :
    Keeps r (es.foldl (fun t e => t.refuseEntry e reason) s) := by
  induction es generalizing s with
  | nil => exact h
  | cons e es ih => exact ih (h.refuseEntry e reason)

/-- An entry applied within the budget (R80, R82). -/
theorem Keeps.applyEntry {w : Sweep} (e : Entry) {count : Nat} (note : Option Reason)
    (hused : r.BudgetKept → w.used + count ≤ Config.crosspointBudget) : Keeps r (s.applyEntry w e count note) := by
  have hcounted : Keeps r (State.perform { s with sweep := some { w with used := w.used + count } } e.bank e.action
      w.target) := by
    refine h.to (.refl _) (fun _ => .refl _) (fun hr v hv => ?_) id id
    cases hv
    exact hused hr
  cases note with
  | none => exact hcounted
  | some reason => exact hcounted.notify ..

omit h in
/-- An entry is applied only where its count fits the budget (R77, R82). -/
theorem count_of_applied {s : State} {w : Sweep} {e : Entry} {count : Nat} {note : Option Reason}
    (h : s.outcomeOf w e = .applied count note) : w.used + count ≤ Config.crosspointBudget := by
  unfold State.outcomeOf at h
  split_ifs at h
  split at h
  · cases h
  · cases h
  · split at h
    · cases h
    · rename_i hfits
      cases h
      exact Nat.le_of_not_lt hfits

theorem Keeps.dealEntry {w : Sweep} {e : Entry} {left rest : List Entry} (hw : s.sweep = some w)
    (hlist : s.schedule = left ++ e :: rest) : Keeps r (s.dealEntry w e left rest) := by
  have hcut : Keeps r { s with schedule := left ++ rest } :=
    h.entries (.of_sublist (hlist ▸ List.Sublist.append_left (List.sublist_cons_self e rest) left))
  unfold State.dealEntry
  split
  · rename_i count _
    refine h.to ?_ (fun _ => .refl _) (fun hr v hv => ?_) id id
    · rw [hlist]
      have hmarked : EntriesFrom [e] [{ e with count := count, dealt := true }] :=
        ⟨Nat.le_refl _, fun x hx => ⟨e, List.mem_cons_self, by rw [List.mem_singleton.mp hx], by
          rw [List.mem_singleton.mp hx]⟩⟩
      exact (EntriesFrom.refl left).append (hmarked.append (.refl rest))
    · cases hv
      exact (h.budget hr).2 w hw
  · exact hcut.refuseEntry ..
  · rename_i hout
    exact hcut.applyEntry e _ fun _ => count_of_applied hout

omit h in
/-- A take that goes ahead changes no source (R81). -/
theorem judge_take_count {b : BankIx} {a : Action} {n : FieldNo} {count : Nat} {note : Option Reason}
    (ha : a.isTake = true) (hj : s.judge b a n = .goAhead count note) : count = 0 := by
  cases a with
  | cut =>
    simp only [State.judge, judgeCut_eq] at hj
    split_ifs at hj <;> cases hj <;> rfl
  | auto =>
    simp only [State.judge, BankRecord.judgeAuto, BankRecord.judgeTake] at hj
    split at hj
    · split_ifs at hj
      cases hj
      rfl
    · cases hj; rfl
    · cases hj; rfl
  | hold =>
    simp only [State.judge, BankRecord.judgeHold] at hj
    split at hj <;> cases hj <;> rfl
  | _ => simp [Action.isTake] at ha

/-- The members of a linked set dealt with one after another, each within the budget (R82, R83). -/
theorem Keeps.dealMembers {w : Sweep} (ms : List (Entry × Judgement))
    (hused : r.BudgetKept → ∀ m ∈ ms, ∀ count note, m.2 = .goAhead count note →
      w.used + count ≤ Config.crosspointBudget) :
    Keeps r (ms.foldl (fun t m => t.dealMember w m.1 m.2) s) := by
  induction ms generalizing s with
  | nil => exact h
  | cons m ms ih =>
    refine ih ?_ fun hr x hx => hused hr x (List.mem_cons_of_mem _ hx)
    obtain ⟨e, judged⟩ := m
    cases judged with
    | refuse reason => exact h.refuseEntry e reason
    | holdBack => exact h
    | goAhead count note => exact h.applyEntry e note fun hr => hused hr _ List.mem_cons_self count note rfl

/-- A linked set: refused for age, deferred as a whole, or each member dealt with, at no cost of the budget (R81, R83). -/
theorem Keeps.dealSet {w : Sweep} {members left rest : List Entry} (hw : s.sweep = some w)
    (hlist : s.schedule = left ++ members ++ rest) (hlinked : ∀ e ∈ members, e.linked.isSome = true) :
    Keeps r (s.dealSet w members left rest) := by
  have hcut : Keeps r { s with schedule := left ++ rest } :=
    h.entries (.of_sublist (hlist ▸ (List.sublist_append_left left members).append (.refl rest)))
  unfold State.dealSet
  split
  · exact hcut.refuseEntries members .busy
  split
  · refine h.to ?_ (fun _ => .refl _) (fun hr v hv => ?_) id id
    · rw [hlist]
      exact ((EntriesFrom.refl left).append (.map (f := deferMember w) members fun e => ⟨rfl, rfl⟩)).append (.refl rest)
    · cases hv
      exact (h.budget hr).2 w hw
  · refine hcut.dealMembers _ fun hr m hm count note hj => ?_
    obtain ⟨e, he, rfl⟩ := List.mem_map.mp hm
    obtain ⟨htakes, hbudget⟩ := h.budget hr
    have htake := htakes e (by rw [hlist]; exact List.mem_append_left _ (List.mem_append_right _ he)) (hlinked e he)
    rw [judge_take_count htake hj]
    exact hbudget w hw

/-! ### The field (R13, R142, R149 to R153) -/

theorem Keeps.fieldStart {t : State} (ht : t = { s with ref := t.ref, now := t.now })
    (href : RefFits s.ref → RefFits t.ref) : Keeps r t.fieldStart := by
  have hraised : Keeps r { t with ref := { t.ref with counter := t.ref.counter + 1 } } := by
    rw [ht]
    exact h.to (.refl _) (fun _ => .refl _) (fun hr w hw => (h.budget hr).2 w hw) href id
  exact (hraised.setClaims _).startSweep _

theorem Keeps.synthetic : Keeps r s.synthetic :=
  h.fieldStart (t := { s with now := max s.now s.ref.deadline, ref := s.ref.syntheticStart }) rfl id

theorem Keeps.pulse : Keeps r s.pulse := by
  unfold State.pulse
  dsimp only
  split
  · exact h.to (.refl _) (fun _ => .refl _) (fun hr w hw => (h.budget hr).2 w hw) spuriousPulse_fits id
  split
  · exact h.fieldStart (t := { s with ref := s.ref.realStart s.now }) rfl fun hf => realStart_fits hf _
  split
  · exact h.fieldStart (t := { s with ref := s.ref.relock s.now }) rfl id
  · exact h.to (.refl _) (fun _ => .refl _) (fun hr w hw => (h.budget hr).2 w hw) id id

theorem Keeps.publishBank (b : BankIx) (n : FieldNo) : Keeps r (s.publishBank b n) := by
  refine h.frame fun l => ?_
  simp only [State.publishBank, State.link]
  split
  · rw [pick_tab]
    exact place_queuesFrom ..
  · exact .refl _

theorem Keeps.gather (n : FieldNo) (b : BankIx) : Keeps r (s.gather n b) := by
  unfold State.gather
  dsimp only
  split
  · exact h.same
  · exact h.same

/-! ### The Configuration Table (R67, R183) -/

/-- A value that fits its item stored (R181). -/
theorem Keeps.storeItem (number : Nat) {value : BitVec 16} (hfits : ItemFits number value) :
    Keeps r (s.storeItem number value) := by
  refine h.to (.refl _) (fun _ => .refl _) (fun hr w hw => (h.budget hr).2 w hw) id fun hi => ?_
  rw [itemsLegal_iff] at hi ⊢
  intro i hassigned
  have hput : pick (s.storeItem number value).items i = if i.val = number then value else pick s.items i :=
    pick_putItem ..
  rw [hput]
  split
  · rename_i heq
    exact heq ▸ hfits
  · exact hi i hassigned

theorem Keeps.loadItem (entry : Nat × BitVec 16) : Keeps r (s.loadItem entry) := by
  unfold State.loadItem
  split
  · split
    · rename_i hv
      exact h.storeItem _ (itemValue_fits hv)
    · exact h
  · exact h

theorem Keeps.loadItems (entries : List (Nat × BitVec 16)) : Keeps r (entries.foldl State.loadItem s) := by
  induction entries generalizing s with
  | nil => exact h
  | cons entry entries ih => exact ih (h.loadItem entry)

theorem Keeps.startUp (outcome : Option (List (Nat × BitVec 16))) : Keeps r (s.startUp outcome) := by
  cases outcome with
  | none => exact h.same
  | some entries => exact (h.loadItems entries).same

/-! ### The Memory Engine (R86, R87, R159) -/

theorem Keeps.jobFailed (reason : Reason) : Keeps r (s.jobFailed reason) := by
  unfold State.jobFailed
  split
  · exact Keeps.notify (h.entries (.of_sublist List.filter_sublist)) ..
  · exact h.send ..
  · exact h.send ..
  · exact h.startUp _
  · exact h

theorem Keeps.jobWritten : Keeps r s.jobWritten := by
  unfold State.jobWritten
  split
  · exact h.send ..
  · exact Keeps.send h.same ..
  · exact h

theorem Keeps.jobStaged (e : Effect) : Keeps r (s.jobStaged e) := by
  unfold State.jobStaged
  split
  · exact h.entries (.map _ (markStaged_from _))
  · exact h

theorem Keeps.carryOn (p : Progress) : Keeps r (s.carryOn p) := by
  cases p with
  | readOn stage a => exact h.same
  | writeOn writes => exact h.same
  | failed reason => exact (h.jobFailed reason).same
  | staged e => exact (h.jobStaged e).same
  | written => exact h.jobWritten.same
  | loaded entries => exact (h.startUp entries).same

theorem Keeps.ready (data : Byte) : Keeps r (s.ready data) := by
  unfold State.ready
  split
  · exact h
  · exact h.same
  · exact Keeps.carryOn (s := s.portIdle) h.same _

theorem Keeps.expired : Keeps r s.expired := by
  unfold State.expired
  split
  · exact h
  · exact h.same
  · rename_i access _ _ _
    have hidle : Keeps r (s.reach (access.raised + Config.memoryTime)).portIdle := h.same
    exact (hidle.jobFailed _).same

theorem Keeps.readyIn (data : Byte) (dt : Micros) : Keeps r (s.readyIn data dt) := by
  unfold State.readyIn
  split
  · exact h.expired.same
  · exact Keeps.ready (s := s.after dt) h.same data

end

end Sys2Proof.TransitionArithmetic
end

section
/-! The bounds of lists, queues, budget, reference and items (R67, R72, R82, R117, R149, R152, R180) under every served
request and under the GPI lines. -/

open Sys2Proof Sys2Proof.Machine Sys2Proof.TransitionController

namespace Sys2Proof.TransitionArithmetic

section
variable {r s : State} (h : Keeps r s) (o : Offer)
include h

/-! ### Requests (R126 to R137) -/

/-- The served request leaves its queue, which gains nothing (R124). -/
theorem Keeps.takeRequest : Keeps r (s.takeRequest o) := by
  refine Keeps.modLink (s := { s with pointer := o.link }) h.same o.link ?_
  split
  · exact leaveTake_queuesFrom _
  · exact leaveSetup_queuesFrom ..

theorem Keeps.refuse (reason : Reason) (holder : Option LinkIx) : Keeps r (s.refuse o reason holder) := h.send ..

theorem Keeps.accept (info : Accepted) : Keeps r (s.accept o info) := h.send ..

theorem Keeps.useElements (p : LinkIx) (es : List ElemIx) : Keeps r (s.useElements p es) := h.setClaims _

theorem Keeps.serveScheduled {plan : Except Reason Plan} (hplan : LawfulPlan plan) (lead : Byte) :
    Keeps r (s.serveScheduled o plan lead) := by
  unfold State.serveScheduled
  split
  · exact h.refuse ..
  rename_i p
  split
  · exact h.refuse ..
  split
  · exact h.refuse ..
  · rename_i hroom
    have hentries := (h.useElements o.link p.elements).insertAction (s.dueField lead.toNat) (.link o.link o.tag)
      (Nat.le_of_not_lt hroom) (hplan p rfl).1
    exact (hentries.accept o _).settle _

theorem Keeps.serveRecall (bank register lead : Byte) : Keeps r (s.serveRecall o bank register lead) := by
  unfold State.serveRecall
  split
  · exact h.refuse ..
  rename_i b register _
  split
  · exact h.refuse ..
  split
  · exact h.refuse ..
  rename_i hroom
  split
  · exact h.refuse ..
  · have hrecall := (h.useElements o.link (bankElements b)).insertRecall (s.dueField lead.toNat)
      (.link o.link o.tag) register (Nat.le_of_not_lt hroom)
    exact (hrecall.accept o _).settle _

theorem Keeps.serveLever (bank : Byte) (position : Nat) : Keeps r (s.serveLever o bank position) := by
  unfold State.serveLever
  split
  · exact h.refuse ..
  split
  · exact h.refuse ..
  · rename_i b _ _ _
    have hlever : Keeps r ((s.useElements o.link [transElement b]).writeLever o.link b position) :=
      (h.useElements o.link [transElement b]).same
    exact hlever.settle _

theorem Keeps.serveClaim (element : Byte) : Keeps r (s.serveClaim o element) := by
  unfold State.serveClaim
  split
  · exact h.refuse ..
  split
  · exact h.refuse ..
  · exact ((h.setClaims _).accept o _).settle _

theorem Keeps.serveRelease (element : Byte) : Keeps r (s.serveRelease o element) := by
  unfold State.serveRelease
  split
  · exact h.refuse ..
  split
  · exact (h.setClaims _).accept o _
  · exact h.refuse ..

theorem Keeps.serveBreak (element : Byte) : Keeps r (s.serveBreak o element) := by
  unfold State.serveBreak
  split
  · exact h.refuse ..
  split
  · exact h.refuse ..
  split
  · exact h.refuse ..
  split
  · exact h.refuse ..
  split
  · exact h.refuse ..
  · exact (h.setClaims _).accept o _

theorem Keeps.queueJob (j : Job) : Keeps r (s.queueJob j) := h.same

theorem Keeps.serveStore (bank register : Byte) : Keeps r (s.serveStore o bank register) := by
  unfold State.serveStore
  split
  · exact h.refuse ..
  split
  · exact h.refuse ..
  split
  · exact h.refuse ..
  · exact (h.queueJob _).accept o _

theorem Keeps.serveSave : Keeps r (s.serveSave o) := by
  unfold State.serveSave
  split
  · exact h.refuse ..
  split
  · exact h.refuse ..
  · exact (((h.useElements ..).queueJob _).accept o _).settle _

theorem Keeps.cancel (l : LinkIx) (tag : Byte) : Keeps r (s.cancel l tag) :=
  h.entries (.of_sublist List.filter_sublist)

theorem Keeps.serveCancel (tag : Byte) : Keeps r (s.serveCancel o tag) := by
  unfold State.serveCancel
  dsimp only
  split
  · exact h.refuse ..
  · exact (h.cancel ..).accept o _

theorem Keeps.pruneAfter (number : Nat) : Keeps r (s.pruneAfter number) := by
  unfold State.pruneAfter
  split
  · exact h.setClaims _
  · exact h

theorem Keeps.serveConfig (item : Byte) (value : BitVec 16) : Keeps r (s.serveConfig o item value) := by
  unfold State.serveConfig
  split
  · exact h.refuse ..
  rename_i number v hplan
  split
  · exact h.refuse ..
  · obtain ⟨-, -, hvalue⟩ := planConfig_ok hplan
    have hstored := (h.useElements o.link [systemElement]).storeItem number (itemValue_fits hvalue)
    exact ((hstored.pruneAfter _).accept o _).settle _

/-- A soft RESET empties the list, the queues and the sweep, and keeps the table (R137, R184). -/
theorem Keeps.softReset : Keeps r s.softReset := by
  refine h.to (.of_sublist (List.nil_sublist _)) (fun l => ?_) (fun _ w hw => by cases hw) ?_ id
  · have hlink : s.softReset.link l = (s.link l).softReset := pick_tab ..
    rw [hlink]
    exact ⟨List.nil_sublist _, List.nil_sublist _⟩
  · rintro ⟨hlow, hhigh, -⟩
    exact ⟨hlow, hhigh, Nat.zero_le _⟩

theorem Keeps.serveReset : Keeps r (s.serveReset o) := by
  unfold State.serveReset
  split
  · exact h.refuse ..
  · exact h.softReset.accept o _

/-! ### Queries (R136) -/

theorem Keeps.queryOf (subject : Byte) {serve : State → Offer → Byte → State}
    (hserve : ∀ t o a, Keeps r t → Keeps r (serve t o a)) : Keeps r (s.queryOf subject serve) := by
  unfold State.queryOf
  split
  · dsimp only
    split
    · exact hserve _ _ _ (h.takeRequest _)
    split
    · exact h
    · exact (h.takeRequest _).refuse ..
  · exact h

theorem Keeps.serveQueryBank (argument : Byte) : Keeps r (s.serveQueryBank o argument) := by
  unfold State.serveQueryBank
  split
  · exact h.refuse ..
  · exact h.send ..

theorem Keeps.serveQueryClaims (argument : Byte) : Keeps r (s.serveQueryClaims o argument) := by
  unfold State.serveQueryClaims
  split
  · exact h.refuse ..
  · exact h.send ..

theorem Keeps.serveQuerySchedule : Keeps r (s.serveQuerySchedule o) :=
  h.modLink o.link (foldl_place_queuesFrom ..)

theorem Keeps.serveQueryGpi (argument : Byte) : Keeps r (s.serveQueryGpi o argument) := by
  unfold State.serveQueryGpi
  split
  · exact h.refuse ..
  · refine Keeps.send ?_ ..
    split
    · exact h.same
    · exact h

theorem Keeps.serveQueryConfig (argument : Byte) : Keeps r (s.serveQueryConfig o argument) := by
  unfold State.serveQueryConfig
  split
  · exact h.send ..
  · exact h.refuse ..

/-! ### GPI lines (R173 to R175) -/

theorem Keeps.gpiTake (n : LineIx) {a : Action} (ha : a.isTake = true) : Keeps r (s.gpiTake n a) := by
  unfold State.gpiTake
  dsimp only
  split
  · exact h
  split
  · exact h.same
  · rename_i hdropped
    have hroom : (s.gpiBanks n).length ≤ s.freePlaces := by
      simp only [Bool.or_eq_true, decide_eq_true_eq, not_or] at hdropped
      exact Nat.le_of_not_lt hdropped.2
    exact h.insertAction _ _ hroom fun _ => ha

theorem Keeps.gpiRecall (n : LineIx) : Keeps r (s.gpiRecall n) := by
  unfold State.gpiRecall
  dsimp only
  split
  · exact h
  rename_i b _
  split
  · exact h
  split
  · exact h.same
  · rename_i hdropped
    have hroom : 1 ≤ s.freePlacesForRecall b := by
      simp only [Bool.or_eq_true, decide_eq_true_eq, not_or] at hdropped
      exact Nat.le_of_not_lt hdropped.1.2
    exact h.insertRecall _ _ _ hroom

theorem Keeps.gpiAction (n : LineIx) : Keeps r (s.gpiAction n) := by
  unfold State.gpiAction
  split
  · exact h.gpiTake n rfl
  · exact h.gpiTake n rfl
  · exact h.gpiTake n rfl
  · exact h.gpiRecall n
  · exact h

theorem Keeps.modLine (n : LineIx) (f : GpiLine → GpiLine) : Keeps r (s.modLine n f) := h.same

theorem Keeps.acceptEdge (n : LineIx) : Keeps r (s.acceptEdge n) := by
  unfold State.acceptEdge
  dsimp only
  split
  · exact (h.modLine n _).gpiAction n
  · exact h.modLine n _

theorem Keeps.pinChange (n : LineIx) (level : Bool) : Keeps r (s.pinChange n level) := by
  unfold State.pinChange
  dsimp only
  split
  · exact h.modLine n _
  split
  · exact h.modLine n _
  split
  · exact (h.modLine n _).acceptEdge n
  · exact h.modLine n _

end

end Sys2Proof.TransitionArithmetic
end

section
/-! The bounds of lists, queues, budget, reference and items (R67, R72, R82, R117, R149, R152, R180) at every command. -/

open Sys2Proof Sys2Proof.Machine Sys2Proof.TransitionController

namespace Sys2Proof.TransitionArithmetic

/-! ### Commands -/

/-- Whatever state a command answers next, the bounds are kept. -/
def AnswersKept (r : State) (a : Answer) : Prop := ∀ t, a = .next t → Keeps r t

theorem answersKept_next {r t : State} (h : Keeps r t) : AnswersKept r (.next t) := by
  intro u hu
  cases hu
  exact h

/-- The entry that a sweep takes next heads what it has not reached (R76). -/
theorem unswept_of_nextDue {n : FieldNo} {list : List Entry} {e : Entry} (h : nextDue n list = some e) :
    unswept list = e :: (unswept list).tail := by
  unfold nextDue at h
  split at h
  · rename_i x rest hlist
    split at h
    · cases h
      rw [hlist, List.tail_cons]
    · cases h
  · cases h

theorem swept_append_unswept (list : List Entry) : swept list ++ unswept list = list :=
  List.takeWhile_append_dropWhile

theorem setMembers_append_afterSet (set : Nat) (list : List Entry) :
    setMembers set list ++ afterSet set list = list :=
  List.takeWhile_append_dropWhile

theorem linked_of_mem_setMembers {set : Nat} {list : List Entry} {e : Entry} (h : e ∈ setMembers set list) :
    e.linked.isSome = true := by
  have hlinked : e.linked = some set := by simpa using List.mem_takeWhile_imp h
  rw [hlinked]
  rfl

/-- The state right after power-on meets every bound, whatever the state before (R182). -/
theorem keeps_powerOn (r : State) (pending : List Instr) (strapHigh : Bool) (present : Vector Bool 6)
    (pins : Vector Bool 8) : Keeps r (State.atPowerOn pending strapHigh present pins) where
  schedule _ := Nat.zero_le _
  queues _ l := by
    have hlink : (State.atPowerOn pending strapHigh present pins).link l = Link.atPowerOn (pick present l) :=
      pick_tab ..
    rw [hlink]
    exact ⟨Nat.zero_le _, Nat.zero_le _, List.nodup_nil⟩
  budget _ := ⟨fun e he => (by cases he), fun w hw => by cases hw⟩
  reference _ := by
    change Config.shortestField ≤ Config.firstPeriod ∧ Config.firstPeriod ≤ Config.longestField ∧ 0 ≤ Config.countLimit
    decide
  items _ := by
    refine (itemsLegal_iff _).mpr fun number hassigned => ?_
    have hitem : pick (State.atPowerOn pending strapHigh present pins).items number =
        defaultItem strapHigh number.val := pick_tab ..
    rw [hitem]
    exact defaultItem_fits strapHigh number hassigned

section
variable {r s : State} (h : Keeps r s)
include h

theorem Keeps.after (dt : Micros) : Keeps r (s.after dt) := h.same

theorem Keeps.reach (moment : Micros) : Keeps r (s.reach moment) := h.same

theorem Keeps.bytesIn (l : LinkIx) (bytes : List RxByte) (dt : Micros) : Keeps r (s.bytesIn l bytes dt) := by
  induction bytes generalizing s dt with
  | nil => exact h.after dt
  | cons y rest ih =>
    cases rest with
    | nil => exact h.byteIn l y dt
    | cons z rest => exact ih (h.byteIn l y dt) Config.linkByteTime

theorem execSweepEntry_kept : AnswersKept r (execSweepEntry s) := by
  unfold execSweepEntry
  split
  · exact answersKept_next h
  rename_i w hw
  split
  · exact answersKept_next (h.endSweep _)
  rename_i e hdue
  split
  · have hlist : s.schedule = swept s.schedule ++ e :: (unswept s.schedule).tail := by
      rw [← unswept_of_nextDue hdue, swept_append_unswept]
    exact answersKept_next (h.dealEntry hw hlist).settleSweep
  · exact answersKept_next h

theorem execSweepLinkedSet_kept : AnswersKept r (execSweepLinkedSet s) := by
  unfold execSweepLinkedSet
  split
  · exact answersKept_next h
  rename_i w hw
  split
  · exact answersKept_next h
  split
  · exact answersKept_next h
  · rename_i set _
    have hlist : s.schedule = swept s.schedule ++ setMembers set (unswept s.schedule) ++
        afterSet set (unswept s.schedule) := by
      rw [List.append_assoc, setMembers_append_afterSet, swept_append_unswept]
    exact answersKept_next (h.dealSet hw hlist fun e he => linked_of_mem_setMembers he).settleSweep

theorem execFieldUpdate_kept (b : BankIx) : AnswersKept r (execFieldUpdate b s) := by
  unfold execFieldUpdate
  split
  · exact answersKept_next ((h.publishBank ..).gather ..)
  · exact answersKept_next h

theorem execPresentChange_kept (l : LinkIx) (asserted : Bool) (dt : Micros) :
    AnswersKept r (execPresentChange l asserted dt s) := by
  refine answersKept_next ((h.after dt).modLink l ?_)
  split
  · exact .refl _
  · exact .of_eq rfl rfl

theorem execLinkUp_kept (l : LinkIx) : AnswersKept r (execLinkUp l s) := by
  unfold execLinkUp
  split
  · rename_i moment _
    have hup : Keeps r ((s.reach moment).modLink l fun k => { k with up := true, since := none }) :=
      (h.reach moment).modLink l (.of_eq rfl rfl)
    exact answersKept_next (hup.setClaims _)
  · exact answersKept_next h

/-- A link that goes DOWN loses its queues (R113). -/
theorem execLinkDown_kept (l : LinkIx) : AnswersKept r (execLinkDown l s) := by
  unfold execLinkDown
  split
  · rename_i moment _
    have hdown : Keeps r ((s.reach moment).modLink l Link.goDown) :=
      (h.reach moment).modLink l ⟨List.nil_sublist _, List.nil_sublist _⟩
    exact answersKept_next (hdown.linkLost l)
  · exact answersKept_next h

theorem execInterbyteTimeout_kept (l : LinkIx) : AnswersKept r (execInterbyteTimeout l s) := by
  unfold execInterbyteTimeout
  split
  · exact answersKept_next ((h.reach _).modLink l (discardFrame_queuesFrom _))
  · exact answersKept_next h

theorem execTransmitEnd_kept (l : LinkIx) : AnswersKept r (execTransmitEnd l s) := by
  unfold execTransmitEnd
  split
  · rename_i f began _
    obtain ⟨htake, hsetup⟩ := kick_queuesFrom (s.reach (began + lineTime Config.linkRate f.onLine)).now
      { s.link l with line := none }
    exact answersKept_next ((h.reach _).modLink l ⟨htake, hsetup⟩)
  · exact answersKept_next h

theorem execGpiFilterExpiry_kept (n : LineIx) : AnswersKept r (execGpiFilterExpiry n s) := by
  unfold execGpiFilterExpiry
  split
  · exact answersKept_next ((h.reach _).acceptEdge n)
  · exact answersKept_next h

theorem execLossDeadline_kept : AnswersKept r (execLossDeadline s) := by
  refine answersKept_next ?_
  split
  · exact h.synthetic
  · exact h

theorem execFreerunDeadline_kept : AnswersKept r (execFreerunDeadline s) := by
  refine answersKept_next ?_
  split
  · exact h
  · exact h.synthetic

/-- Every command keeps the bounds. -/
theorem exec_kept (i : Instr) : AnswersKept r (exec i s) := by
  cases i with
  | powerOn strapHigh => exact answersKept_next (keeps_powerOn ..)
  | presentChange l asserted dt => exact execPresentChange_kept h l asserted dt
  | linkUp l => exact execLinkUp_kept h l
  | linkDown l => exact execLinkDown_kept h l
  | frameArrival l bytes dt => exact answersKept_next (h.bytesIn l bytes dt)
  | byteArrival l byte dt => exact answersKept_next (h.byteIn l byte dt)
  | interbyteTimeout l => exact execInterbyteTimeout_kept h l
  | transmitEnd l => exact execTransmitEnd_kept h l
  | queryBank => exact answersKept_next (h.queryOf _ fun t o a ht => ht.serveQueryBank o a)
  | queryClaims => exact answersKept_next (h.queryOf _ fun t o a ht => ht.serveQueryClaims o a)
  | querySchedule => exact answersKept_next (h.queryOf _ fun t o a ht => ht.serveQuerySchedule o)
  | queryLink => exact answersKept_next (h.queryOf _ fun t o a ht => ht.send ..)
  | queryGpi => exact answersKept_next (h.queryOf _ fun t o a ht => ht.serveQueryGpi o a)
  | queryConfig => exact answersKept_next (h.queryOf _ fun t o a ht => ht.serveQueryConfig o a)
  | queryField => exact answersKept_next (h.queryOf _ fun t o a ht => ht.send ..)
  | refPulse dt => exact answersKept_next (h.after dt).pulse
  | lossDeadline => exact execLossDeadline_kept h
  | freerunDeadline => exact execFreerunDeadline_kept h
  | sweepEntry => exact execSweepEntry_kept h
  | sweepLinkedSet => exact execSweepLinkedSet_kept h
  | fieldUpdate b => exact execFieldUpdate_kept h b
  | memoryReady data dt => exact answersKept_next (h.readyIn data dt)
  | memoryTimeout => exact answersKept_next h.expired
  | gpiPinChange n level dt => exact answersKept_next ((h.after dt).pinChange n level)
  | gpiFilterExpiry n => exact execGpiFilterExpiry_kept h n
  | malformedFrame =>
    simp only [exec, execMalformedFrame]
    split
    · exact answersKept_next ((h.takeRequest _).refuse ..)
    · exact answersKept_next h
  | select =>
    simp only [exec, execSelect]
    split
    · exact answersKept_next ((h.takeRequest _).serveScheduled _ (planSelect_lawful s _ _ _) _)
    · exact answersKept_next h
  | cut =>
    simp only [exec, execCut]
    split
    · exact answersKept_next ((h.takeRequest _).serveScheduled _ (planMask_lawful s _ rfl) _)
    · exact answersKept_next h
  | auto =>
    simp only [exec, execAuto]
    split
    · exact answersKept_next ((h.takeRequest _).serveScheduled _ (planMask_lawful s _ rfl) _)
    · exact answersKept_next h
  | hold =>
    simp only [exec, execHold]
    split
    · exact answersKept_next ((h.takeRequest _).serveScheduled _ (planMask_lawful s _ rfl) _)
    · exact answersKept_next h
  | lever =>
    simp only [exec, execLever]
    split
    · exact answersKept_next ((h.takeRequest _).serveLever ..)
    · exact answersKept_next h
  | keyCut =>
    simp only [exec, execKeyCut]
    split
    · exact answersKept_next ((h.takeRequest _).serveScheduled _ (planKeyCut_lawful s _ _ _) _)
    · exact answersKept_next h
  | keySetup =>
    simp only [exec, execKeySetup]
    split
    · exact answersKept_next ((h.takeRequest _).serveScheduled _ (planKeySetup_lawful s _ _ _ _ _ _ _ _ _) _)
    · exact answersKept_next h
  | transSetup =>
    simp only [exec, execTransSetup]
    split
    · exact answersKept_next ((h.takeRequest _).serveScheduled _ (planTransSetup_lawful s _ _ _ _ _ _ _ _ _) _)
    · exact answersKept_next h
  | layers =>
    simp only [exec, execLayers]
    split
    · exact answersKept_next ((h.takeRequest _).serveScheduled _ (planLayers_lawful s _ _) _)
    · exact answersKept_next h
  | claim =>
    simp only [exec, execClaim]
    split
    · exact answersKept_next ((h.takeRequest _).serveClaim ..)
    · exact answersKept_next h
  | release =>
    simp only [exec, execRelease]
    split
    · exact answersKept_next ((h.takeRequest _).serveRelease ..)
    · exact answersKept_next h
  | breakLock =>
    simp only [exec, execBreakLock]
    split
    · exact answersKept_next ((h.takeRequest _).serveBreak ..)
    · exact answersKept_next h
  | recallEffect =>
    simp only [exec, execRecall]
    split
    · exact answersKept_next ((h.takeRequest _).serveRecall ..)
    · exact answersKept_next h
  | store =>
    simp only [exec, execStore]
    split
    · exact answersKept_next ((h.takeRequest _).serveStore ..)
    · exact answersKept_next h
  | cancel =>
    simp only [exec, execCancel]
    split
    · exact answersKept_next ((h.takeRequest _).serveCancel ..)
    · exact answersKept_next h
  | config =>
    simp only [exec, execConfig]
    split
    · exact answersKept_next ((h.takeRequest _).serveConfig ..)
    · exact answersKept_next h
  | saveConfig =>
    simp only [exec, execSaveConfig]
    split
    · exact answersKept_next ((h.takeRequest _).serveSave ..)
    · exact answersKept_next h
  | reset =>
    simp only [exec, execReset]
    split
    · exact answersKept_next ((h.takeRequest _).serveReset ..)
    · exact answersKept_next h
  | parameterRecordSent =>
    simp only [exec, execParameterRecordSent]
    split
    · exact answersKept_next h.same
    · exact answersKept_next h
  | tallyFrameSent =>
    simp only [exec, execTallyFrameSent]
    split
    · exact answersKept_next h.same
    · exact answersKept_next h

end

/-- Settles O56: each operation on the state keeps every bound, so each command does, and a step is a command run on a
state with the same list, queues, sweep, reference and table. -/
theorem listsQueuesBudgetAndItemsStayBounded : Obligations.ListsQueuesBudgetAndItemsStayBounded := by
  intro s t hstep
  have hkept : Keeps s t := by
    unfold step at hstep
    split at hstep
    · exact answersKept_next (.refl s) t hstep
    · rename_i rest _
      have hrest : Keeps s { s with pending := rest } := (Keeps.refl s).same
      exact exec_kept hrest _ t hstep
  exact ⟨hkept.schedule, hkept.queues, hkept.budget, hkept.reference, hkept.items⟩

end Sys2Proof.TransitionArithmetic
end

section
/-! Recalls in flight (R85 to R88, R161, R162, R166): for each bank, its entry in the list, its job and its staged
record, seen as one; and the job queue of the Memory Engine. -/

open Sys2Proof Sys2Proof.Machine Sys2Proof.TransitionController Sys2Proof.TransitionArithmetic

namespace Sys2Proof.Schedule

/-! ### The recall of a bank -/

/-- What an entry is to bank `b` if it is a recall of it: its register, whether it is STAGED, and its origin. -/
def recallSeen (b : BankIx) (e : Entry) : Option (Nat × Bool × Origin) :=
  match e.action with
  | .recallEffect r staged => if e.bank = b then some (r, staged, e.origin) else none
  | _ => none

/-- What stands of a bank's recalls: their entries, their jobs, and whether a record is staged. -/
structure InFlight where
  entries : List (Nat × Bool × Origin)
  jobs : List (Nat × Origin)
  staged : Bool

/-- What stands of the recalls of bank `b`. -/
def inFlight (s : State) (b : BankIx) : InFlight where
  entries := s.schedule.filterMap (recallSeen b)
  jobs := s.engine.jobs.filterMap (Job.recallFor b)
  staged := (s.bank b).staging.isSome

/-- A bank has no recall, one FETCHING entry with its job, or one STAGED entry with its record (R85, R86, R88). -/
inductive InFlight.Paired : InFlight → Prop
  | absent : Paired ⟨[], [], false⟩
  | fetching (r : Nat) (o : Origin) : Paired ⟨[(r, false, o)], [(r, o)], false⟩
  | staged (r : Nat) (o : Origin) : Paired ⟨[(r, true, o)], [], true⟩

theorem isRecallOf_eq (b : BankIx) (e : Entry) : e.isRecallOf b = (recallSeen b e).isSome := by
  unfold Entry.isRecallOf recallSeen
  cases e.action with
  | recallEffect r staged => by_cases hb : e.bank = b <;> simp [hb]
  | _ => rfl

theorem fetchingFor_eq (b : BankIx) (e : Entry) :
    e.fetchingFor b = (recallSeen b e).bind fun x => if x.2.1 then none else some (x.1, x.2.2) := by
  unfold Entry.fetchingFor recallSeen
  cases e.action with
  | recallEffect r staged => cases staged <;> by_cases hb : e.bank = b <;> simp [hb]
  | _ => rfl

theorem stagedFor_eq (b : BankIx) (e : Entry) : e.stagedFor b = (recallSeen b e).any fun x => x.2.1 := by
  unfold Entry.stagedFor recallSeen
  cases e.action with
  | recallEffect r staged => cases staged <;> by_cases hb : e.bank = b <;> simp [hb]
  | _ => rfl

theorem length_recalls (b : BankIx) (list : List Entry) :
    (list.filter (Entry.isRecallOf b)).length = (list.filterMap (recallSeen b)).length := by
  rw [List.length_filterMap_eq_countP, ← List.countP_eq_length_filter]
  exact List.countP_congr fun e _ => by rw [isRecallOf_eq]

theorem filterMap_fetchingFor (b : BankIx) (list : List Entry) :
    list.filterMap (Entry.fetchingFor b) =
      (list.filterMap (recallSeen b)).filterMap fun x => if x.2.1 then none else some (x.1, x.2.2) := by
  rw [List.filterMap_filterMap]
  exact List.filterMap_congr fun e _ => fetchingFor_eq b e

theorem any_stagedFor (b : BankIx) (list : List Entry) :
    list.any (Entry.stagedFor b) = (list.filterMap (recallSeen b)).any fun x => x.2.1 := by
  rw [List.any_filterMap]
  refine congrArg list.any (funext fun e => ?_)
  rw [stagedFor_eq]
  cases recallSeen b e <;> rfl

/-- The pairing of the rules, bank by bank (R85, R86, R88). -/
theorem paired_iff (s : State) (b : BankIx) :
    ((s.schedule.filter (Entry.isRecallOf b)).length ≤ 1 ∧
      s.engine.jobs.filterMap (Job.recallFor b) = s.schedule.filterMap (Entry.fetchingFor b) ∧
      ((s.bank b).staging.isSome = s.schedule.any (Entry.stagedFor b))) ↔ (inFlight s b).Paired := by
  rw [length_recalls, filterMap_fetchingFor, any_stagedFor, inFlight]
  generalize s.schedule.filterMap (recallSeen b) = entries
  generalize s.engine.jobs.filterMap (Job.recallFor b) = jobs
  generalize (s.bank b).staging.isSome = staged
  constructor
  · rintro ⟨hone, rfl, rfl⟩
    match entries, hone with
    | [], _ => exact .absent
    | [(r, false, o)], _ => exact .fetching r o
    | [(r, true, o)], _ => exact .staged r o
  · rintro (_ | ⟨r, o⟩ | ⟨r, o⟩) <;> exact ⟨by simp, rfl, rfl⟩

theorem recallsPaired_iff (s : State) :
    s.RecallsPaired ↔ s.LinkedTakes ∧ s.engine.StageFits ∧ s.engine.jobs.length ≤ Config.jobPlaces ∧
      ∀ b, (inFlight s b).Paired := by
  simp only [State.RecallsPaired, paired_iff]

/-- An entry is no recall of a bank other than its own. -/
theorem recallSeen_of_bank {c : BankIx} {e : Entry} (h : e.bank ≠ c) : recallSeen c e = none := by
  unfold recallSeen
  split
  · exact if_neg h
  · rfl

theorem bank_of_isRecallOf {b : BankIx} {e : Entry} (h : e.isRecallOf b = true) : e.bank = b := by
  unfold Entry.isRecallOf at h
  split at h
  · exact eq_of_beq h
  · cases h

/-- The recalls of `b` are no recalls of another bank. -/
theorem recallSeen_of_other {b c : BankIx} {e : Entry} (h : e.isRecallOf b = true) (hc : c ≠ b) :
    recallSeen c e = none :=
  recallSeen_of_bank fun he => hc (he.symm.trans (bank_of_isRecallOf h))

theorem recallSeen_origin {b : BankIx} {e : Entry} {x : Nat × Bool × Origin} (h : recallSeen b e = some x) :
    x.2.2 = e.origin := by
  unfold recallSeen at h
  split at h
  · split at h
    · cases h; rfl
    · cases h
  · cases h

/-- A take is no recall. -/
theorem recallSeen_take {e : Entry} (h : e.action.isTake = true) (b : BankIx) : recallSeen b e = none := by
  unfold recallSeen
  split
  · rename_i ha
    rw [ha] at h
    cases h
  · rfl

theorem recallSeen_of_not {b : BankIx} {e : Entry} (h : e.isRecallOf b = false) : recallSeen b e = none := by
  rw [isRecallOf_eq] at h
  simpa using h

/-- Where no recall of a bank goes, those that the list holds stay. -/
theorem filterMap_recallSeen_filter {p : Entry → Bool} (c : BankIx) (list : List Entry)
    (h : ∀ e ∈ list, p e = false → recallSeen c e = none) :
    (list.filter p).filterMap (recallSeen c) = list.filterMap (recallSeen c) := by
  rw [List.filterMap_filter]
  refine List.filterMap_congr fun e he => ?_
  split
  · rfl
  · rename_i hp
    exact (h e he (by simpa using hp)).symm

/-- The list without the recalls of `b` (R88). -/
theorem recalls_without (b c : BankIx) (list : List Entry) :
    (list.filter fun e => !e.isRecallOf b).filterMap (recallSeen c) =
      if c = b then [] else list.filterMap (recallSeen c) := by
  split
  · rename_i hc
    subst hc
    refine List.filterMap_eq_nil_iff.mpr fun e he => recallSeen_of_not ?_
    simpa using (List.mem_filter.mp he).2
  · rename_i hc
    exact filterMap_recallSeen_filter c list fun e _ he => recallSeen_of_other (by simpa using he) hc

theorem recallFor_eq_none {b c : BankIx} {j : Job} (h : j.isRecallOf b = true) (hc : c ≠ b) :
    j.recallFor c = none := by
  cases j with
  | recallEffect d r o => exact if_neg fun hd => hc (hd.symm.trans (eq_of_beq h))
  | _ => rfl

theorem recallFor_isSome (b : BankIx) (j : Job) : (j.recallFor b).isSome = j.isRecallOf b := by
  cases j with
  | recallEffect d r o => by_cases hd : d = b <;> simp [Job.recallFor, Job.isRecallOf, hd]
  | _ => rfl

/-- The queue without the recall jobs of `b` (R162). -/
theorem recallJobs_without (b c : BankIx) (jobs : List Job) :
    (jobs.filter fun j => !j.isRecallOf b).filterMap (Job.recallFor c) =
      if c = b then [] else jobs.filterMap (Job.recallFor c) := by
  rw [List.filterMap_filter]
  split
  · rename_i hc
    subst hc
    refine List.filterMap_eq_nil_iff.mpr fun j _ => ?_
    have hsome := recallFor_isSome c j
    cases hj : j.isRecallOf c
    · rw [hj] at hsome
      simpa using hsome
    · rfl
  · rename_i hc
    refine List.filterMap_congr fun j _ => ?_
    cases hj : j.isRecallOf b
    · rfl
    · exact (recallFor_eq_none hj hc).symm

/-! ### The job queue (R161, R162) -/

/-- A stage of the work on a job (R161). -/
def Serves : Stage → Job → Prop
  | .directory _, .recallEffect _ _ _ => True
  | .chain _ _ _ _ _, .recallEffect _ _ _ => True
  | .fragments _ _ _ _, .recallEffect _ _ _ => True
  | .writing _, .store _ _ _ _ _ => True
  | .writing _, .save _ _ => True
  | .loading _, .load => True
  | _, _ => False

theorem stageFits_iff (g : Engine) :
    g.StageFits ↔ ∀ stage, g.stage = some stage → ∃ j, g.jobs.head? = some j ∧ Serves stage j := by
  obtain ⟨jobs, stage, port⟩ := g
  cases stage with
  | none => simp [Engine.StageFits]
  | some stage =>
    cases jobs with
    | nil => cases stage <;> simp [Engine.StageFits]
    | cons j rest => cases stage <;> cases j <;> simp [Engine.StageFits, Serves]

theorem stageFits_none {g : Engine} (h : g.stage = none) : g.StageFits := by
  rw [stageFits_iff, h]
  intro stage hs
  cases hs

@[simp] theorem writing_jobs (g : Engine) (now : Micros) (writes : List (Address × Byte)) :
    (g.writing now writes).jobs = g.jobs := by
  cases writes <;> rfl

@[simp] theorem start_jobs (g : Engine) (now : Micros) (items : Vector (BitVec 16) 88) (j : Job) :
    (g.start now items j).jobs = g.jobs := by
  cases j with
  | store | save => exact writing_jobs ..
  | _ => rfl

@[simp] theorem activate_jobs (g : Engine) (now : Micros) (items : Vector (BitVec 16) 88) :
    (g.activate now items).jobs = g.jobs := by
  unfold Engine.activate
  split
  · exact start_jobs ..
  · rfl

@[simp] theorem enqueue_jobs (g : Engine) (now : Micros) (items : Vector (BitVec 16) 88) (j : Job) :
    (g.enqueue now items j).jobs = g.jobs ++ [j] := activate_jobs ..

/-- The recall jobs of a bank leave the queue, whether waiting or active (R162). -/
@[simp] theorem dropRecall_jobs (g : Engine) (now : Micros) (items : Vector (BitVec 16) 88) (b : BankIx) :
    (g.dropRecall now items b).jobs = g.jobs.filter fun j => !j.isRecallOf b := by
  unfold Engine.dropRecall
  split
  · rename_i hjobs
    rw [hjobs]
    rfl
  · rename_i j rest hjobs
    rw [hjobs]
    split
    · rename_i hj
      simp [hj]
    · rename_i hj
      simp [hj]

theorem writing_fits {g : Engine} {j : Job} (hstage : g.stage = none) (hhead : g.jobs.head? = some j)
    (hserves : ∀ rest, Serves (.writing rest) j) (now : Micros) (writes : List (Address × Byte)) :
    (g.writing now writes).StageFits := by
  cases writes with
  | nil => exact stageFits_none hstage
  | cons w rest =>
    refine (stageFits_iff _).mpr fun stage hs => ⟨j, hhead, ?_⟩
    cases hs
    exact hserves rest

/-- A job becomes active at the stage of its kind (R161). -/
theorem start_fits {g : Engine} {j : Job} (hstage : g.stage = none) (hhead : g.jobs.head? = some j) (now : Micros)
    (items : Vector (BitVec 16) 88) : (g.start now items j).StageFits := by
  cases j with
  | store | save => exact writing_fits hstage hhead (fun _ => trivial) ..
  | recallEffect | load =>
    refine (stageFits_iff _).mpr fun stage hs => ⟨_, hhead, ?_⟩
    cases hs
    trivial

theorem activate_fits {g : Engine} (h : g.StageFits) (now : Micros) (items : Vector (BitVec 16) 88) :
    (g.activate now items).StageFits := by
  unfold Engine.activate
  split
  · rename_i hstage _ hjobs
    exact start_fits hstage (by rw [hjobs]; rfl) ..
  · exact h

/-- Jobs behind the active one come and go without it. -/
theorem stageFits_of_head {g h : Engine} (hg : g.StageFits) (hstage : h.stage = g.stage)
    (hhead : ∀ j, g.jobs.head? = some j → h.jobs.head? = some j) : h.StageFits := by
  rw [stageFits_iff] at hg ⊢
  intro stage hs
  obtain ⟨j, hj, hserves⟩ := hg stage (hstage ▸ hs)
  exact ⟨j, hhead j hj, hserves⟩

theorem enqueue_fits {g : Engine} (h : g.StageFits) (now : Micros) (items : Vector (BitVec 16) 88) (j : Job) :
    (g.enqueue now items j).StageFits := by
  refine activate_fits (g := { g with jobs := g.jobs ++ [j] }) (stageFits_of_head h rfl fun i hi => ?_) ..
  rw [List.head?_append, hi]
  rfl

theorem dropRecall_fits {g : Engine} (h : g.StageFits) (now : Micros) (items : Vector (BitVec 16) 88) (b : BankIx) :
    (g.dropRecall now items b).StageFits := by
  unfold Engine.dropRecall
  split
  · exact h
  · rename_i j rest hjobs
    split
    · exact activate_fits (stageFits_none rfl) ..
    · exact stageFits_of_head h rfl fun i hi => by rwa [hjobs] at hi

/-! ### Several recalls leave (R89, R162) -/

/-- The recalls of several banks taken out of the queue, one bank after another (R89, R162). -/
def dropRecalls (g : Engine) (now : Micros) (items : Vector (BitVec 16) 88) (bs : List BankIx) : Engine :=
  bs.foldl (fun g b => g.dropRecall now items b) g

theorem dropRecalls_jobs (g : Engine) (now : Micros) (items : Vector (BitVec 16) 88) (bs : List BankIx) :
    (dropRecalls g now items bs).jobs = g.jobs.filter fun j => bs.all fun b => !j.isRecallOf b := by
  induction bs generalizing g with
  | nil => exact (List.filter_eq_self.mpr fun _ _ => rfl).symm
  | cons b bs ih =>
    have hstep : dropRecalls g now items (b :: bs) = dropRecalls (g.dropRecall now items b) now items bs := rfl
    rw [hstep, ih, dropRecall_jobs, List.filter_filter]
    exact List.filter_congr fun j _ => Bool.and_comm ..

theorem dropRecalls_fits {g : Engine} (h : g.StageFits) (now : Micros) (items : Vector (BitVec 16) 88)
    (bs : List BankIx) : (dropRecalls g now items bs).StageFits := by
  induction bs generalizing g with
  | nil => exact h
  | cons b bs ih => exact ih (dropRecall_fits h ..)

/-- The queue without the recall jobs of several banks. -/
theorem recallJobs_withoutAll (bs : List BankIx) (c : BankIx) (jobs : List Job) :
    (jobs.filter fun j => bs.all fun b => !j.isRecallOf b).filterMap (Job.recallFor c) =
      if c ∈ bs then [] else jobs.filterMap (Job.recallFor c) := by
  induction bs generalizing jobs with
  | nil => simp
  | cons b bs ih =>
    have hsplit : (jobs.filter fun j => (b :: bs).all fun d => !j.isRecallOf d) =
        (jobs.filter fun j => bs.all fun d => !j.isRecallOf d).filter fun j => !j.isRecallOf b := by
      rw [List.filter_filter]
      rfl
    rw [hsplit, recallJobs_without, ih]
    by_cases hb : c = b <;> simp [hb]

/-- With the port idle and no job active, the job at the head becomes active with its first access (R161). -/
theorem activate_firstAccess {g : Engine} (hstage : g.stage = none) (hport : g.port = none) (now : Micros)
    (items : Vector (BitVec 16) 88) : (g.activate now items).FirstAccess now items := by
  obtain ⟨jobs, stage, port⟩ := g
  cases hstage
  cases hport
  cases jobs with
  | nil => exact ⟨rfl, rfl⟩
  | cons j rest =>
    cases j with
    | recallEffect | store | load => exact ⟨rfl, rfl⟩
    | save =>
      obtain ⟨tail, hblock⟩ : ∃ tail, writesFrom 0 (configBlock items) = (0, 0x5A) :: tail := by
        obtain ⟨rest, hrest⟩ := configBlock_counted items
        rw [hrest, writesFrom, List.length_cons, List.range_succ_eq_map]
        exact ⟨_, rfl⟩
      simp only [Engine.activate, Engine.start, Engine.FirstAccess, hblock]
      exact ⟨rfl, rfl⟩

end Sys2Proof.Schedule
end

section
/-! The room of the transmit queues (R120 to R123): what a frame takes of a link's general places, and what the promises
of entries and jobs do. -/

open Sys2Proof Sys2Proof.Machine Sys2Proof.TransitionController Sys2Proof.TransitionArithmetic

namespace Sys2Proof.Schedule

/-! ### The places of a link (R120, R121) -/

/-- A link comes to hold at most `n` frames more in its general places, and still one report in each report place. -/
def Takes (k j : Link) (n : Nat) : Prop :=
  j.generalFrames ≤ k.generalFrames + n ∧ (k.reports.Nodup → j.reports.Nodup)

theorem Takes.refl (k : Link) : Takes k k 0 := ⟨Nat.le_refl _, id⟩

theorem Takes.trans {k i j : Link} {m n : Nat} (h : Takes k i m) (h' : Takes i j n) : Takes k j (m + n) := by
  obtain ⟨hframes, hreports⟩ := h
  obtain ⟨hframes', hreports'⟩ := h'
  exact ⟨by omega, hreports' ∘ hreports⟩

theorem Takes.of_sublist {k j : Link} (h : j.tx.Sublist k.tx) : Takes k j 0 :=
  ⟨(h.filter _).length_le, (h.filterMap _).nodup⟩

theorem Takes.of_eq {k j : Link} (h : j.tx = k.tx) : Takes k j 0 := .of_sublist (h ▸ .refl _)

/-- The line takes a frame from the queue at most. -/
theorem kick_takes (now : Micros) (k : Link) : Takes k (k.kick now) 0 := by
  refine .of_sublist ?_
  unfold Link.kick
  split
  · split
    · exact .refl _
    · rename_i htx
      rw [htx]
      exact List.sublist_cons_self ..
    · exact .refl _
  · exact .refl _

theorem flow_takes (now : Micros) (f : Flow) (k : Link) : Takes k (k.flow now f) 0 := by
  unfold Link.flow
  split
  · exact .of_eq rfl
  · exact Takes.trans (.of_eq (j := { k with slot := some f }) rfl) (kick_takes now _)

/-- The general places a frame takes (R120). -/
def places (f : TxFrame) : Nat := if (reportPlace f).isNone then 1 else 0

/-- A report stands alone in its place, the newer one instead of the older; any other frame takes a general place (R120,
R121). -/
theorem placeIn_takes (f : TxFrame) (k : Link) : Takes k { k with tx := placeIn f k.tx } (places f) := by
  unfold Takes Link.generalFrames Link.reports places placeIn
  split
  · have hplace : ∀ g, reportPlace (if reportPlace g == reportPlace f then f else g) = reportPlace g := by
      intro g
      split
      · rename_i hg
        exact (eq_of_beq hg).symm
      · rfl
    have hreports : ∀ tx : List TxFrame,
        (tx.map fun g => if reportPlace g == reportPlace f then f else g).filterMap reportPlace =
          tx.filterMap reportPlace := fun tx => by
      rw [List.filterMap_map]
      exact List.filterMap_congr fun g _ => hplace g
    have hgeneral : ((fun g => (reportPlace g).isNone) ∘ fun g => if reportPlace g == reportPlace f then f else g) =
        fun g => (reportPlace g).isNone := funext fun g => by rw [Function.comp_apply, hplace]
    refine ⟨?_, by rw [hreports]; exact id⟩
    rw [List.filter_map, List.length_map, hgeneral]
    exact Nat.le_add_right ..
  · rename_i hnew
    cases hf : reportPlace f with
    | none => simp [hf]
    | some p =>
      refine ⟨by simp [hf], fun hnodup => ?_⟩
      have hfree : p ∉ k.tx.filterMap reportPlace := by
        intro hp
        obtain ⟨g, hg, hgp⟩ := List.mem_filterMap.mp hp
        refine hnew ?_
        rw [hf]
        exact Bool.and_eq_true_iff.mpr ⟨rfl, List.any_eq_true.mpr ⟨g, hg, by rw [hgp]; exact beq_self_eq_true _⟩⟩
      rw [List.filterMap_append]
      exact List.nodup_append.mpr ⟨hnodup, by simp [hf], fun a ha b hb hab => hfree (by simp_all)⟩

theorem place_takes (now : Micros) (f : TxFrame) (k : Link) : Takes k (k.place now f) (places f) := by
  unfold Link.place
  split
  · exact (placeIn_takes f k).trans (kick_takes now _)
  · exact ⟨Nat.le_add_right .., id⟩

theorem foldl_place_takes (now : Micros) (fs : List TxFrame) (k : Link) :
    Takes k (fs.foldl (fun k f => k.place now f) k) (fs.map places).sum := by
  induction fs generalizing k with
  | nil => exact .refl k
  | cons f fs ih => exact (place_takes now f k).trans (ih _)

/-- A change of claims brings reports alone (R109). -/
theorem claimReports_places (before after : Vector (Option Claim) 25) :
    ((claimReports before after).map places).sum = 0 := by
  rw [claimReports, List.map_map]
  exact List.sum_eq_zero fun n hn => by
    obtain ⟨q, -, rfl⟩ := List.mem_map.mp hn
    rfl

/-! ### Promises (R120) -/

/-- The link that an origin has a promise of. -/
def originLinks : Origin → List LinkIx
  | .link p _ => [p]
  | .line _ => []

/-- The link that a job has a promise of (R120). -/
def jobLinks : Job → List LinkIx
  | .store p _ _ _ _ => [p]
  | .save p _ => [p]
  | _ => []

/-- The links that hold promises, each as often as it does: one for each entry and each STORE and SAVE-CONFIG job. -/
def entryPromises (list : List Entry) : List LinkIx := list.flatMap fun e => originLinks e.origin

def jobPromises (jobs : List Job) : List LinkIx := jobs.flatMap jobLinks

theorem count_originLinks (l : LinkIx) (o : Origin) : (originLinks o).count l = if o.isLink l then 1 else 0 := by
  cases o with
  | link p tag => simp [originLinks, Origin.isLink, List.count_singleton]
  | line n => rfl

theorem count_jobLinks (l : LinkIx) (j : Job) : (jobLinks j).count l = if j.promises l then 1 else 0 := by
  cases j with
  | store p | save p => simp [jobLinks, Job.promises, List.count_singleton]
  | _ => rfl

/-- Counting in a list what each of another's elements brings once or not at all. -/
theorem count_flatMap_of {α : Type} {f : α → List LinkIx} {p : α → Bool} {l : LinkIx}
    (h : ∀ a, (f a).count l = if p a then 1 else 0) (list : List α) :
    (list.flatMap f).count l = (list.filter p).length := by
  induction list with
  | nil => rfl
  | cons a list ih =>
    rw [List.flatMap_cons, List.count_append, ih, h, List.filter_cons]
    split
    · rw [List.length_cons, Nat.add_comm]
    · rw [Nat.zero_add]

theorem promised_eq (s : State) (l : LinkIx) :
    s.promised l = (entryPromises s.schedule).count l + (jobPromises s.engine.jobs).count l := by
  rw [entryPromises, jobPromises, count_flatMap_of fun e => count_originLinks l e.origin,
    count_flatMap_of (count_jobLinks l)]
  rfl

@[simp] theorem entryPromises_nil : entryPromises [] = [] := rfl

@[simp] theorem entryPromises_cons (e : Entry) (list : List Entry) :
    entryPromises (e :: list) = originLinks e.origin ++ entryPromises list := rfl

@[simp] theorem entryPromises_append (list list' : List Entry) :
    entryPromises (list ++ list') = entryPromises list ++ entryPromises list' := List.flatMap_append

@[simp] theorem jobPromises_cons (j : Job) (jobs : List Job) :
    jobPromises (j :: jobs) = jobLinks j ++ jobPromises jobs := rfl

@[simp] theorem jobPromises_append (jobs jobs' : List Job) :
    jobPromises (jobs ++ jobs') = jobPromises jobs ++ jobPromises jobs' := List.flatMap_append

theorem entryPromises_map {f : Entry → Entry} (hf : ∀ e, (f e).origin = e.origin) (list : List Entry) :
    entryPromises (list.map f) = entryPromises list := by
  unfold entryPromises
  rw [List.flatMap_map]
  simp only [hf]

theorem entryPromises_sublist {list list' : List Entry} (h : list.Sublist list') :
    (entryPromises list).Sublist (entryPromises list') := h.flatMap _

theorem jobPromises_sublist {jobs jobs' : List Job} (h : jobs.Sublist jobs') :
    (jobPromises jobs).Sublist (jobPromises jobs') := h.flatMap _

/-- New entries bring a promise each (R71, R120). -/
theorem count_insertEntry (e : Entry) (list : List Entry) (l : LinkIx) :
    (entryPromises (insertEntry e list)).count l =
      (originLinks e.origin).count l + (entryPromises list).count l := by
  induction list with
  | nil => simp [insertEntry]
  | cons x rest ih =>
    unfold insertEntry
    split
    · simp only [entryPromises_cons, List.count_append, ih]
      omega
    · simp only [entryPromises_cons, List.count_append]

theorem count_insertEntries (es list : List Entry) (l : LinkIx) :
    (entryPromises (insertEntries es list)).count l =
      (entryPromises es).count l + (entryPromises list).count l := by
  induction es generalizing list with
  | nil => simp [insertEntries]
  | cons e es ih =>
    have hstep : insertEntries (e :: es) list = insertEntries es (insertEntry e list) := rfl
    rw [hstep, ih, count_insertEntry, entryPromises_cons, List.count_append]
    omega

/-- The promises of a list are those of the recalls of `b` and those of its other entries. -/
theorem count_entryPromises (b : BankIx) (list : List Entry) (l : LinkIx) :
    (entryPromises list).count l =
      (entryPromises (list.filter fun e => !e.isRecallOf b)).count l +
        ((list.filterMap (recallSeen b)).flatMap fun x => originLinks x.2.2).count l := by
  induction list with
  | nil => rfl
  | cons e list ih =>
    cases he : recallSeen b e with
    | none =>
      have hkept : e.isRecallOf b = false := by rw [isRecallOf_eq, he]; rfl
      rw [List.filterMap_cons_none he, List.filter_cons_of_pos (by simp [hkept])]
      simp only [entryPromises_cons, List.count_append, ih]
      omega
    | some x =>
      have hgone : e.isRecallOf b = true := by rw [isRecallOf_eq, he]; rfl
      rw [List.filterMap_cons_some he, List.filter_cons_of_neg (by simp [hgone])]
      simp only [entryPromises_cons, List.flatMap_cons, List.count_append, ih, recallSeen_origin he]
      omega

end Sys2Proof.Schedule
end

section
/-! Recalls in flight and the room of the transmit queues (R85 to R88, R120 to R123) under every operation on the
state. -/

open Sys2Proof Sys2Proof.Machine Sys2Proof.TransitionController Sys2Proof.TransitionArithmetic

namespace Sys2Proof.Schedule

/-! ### What is kept -/

/-- The invariant with places kept for frames to come: besides its frames and its promises, the general places of a link
hold one frame for each time that `owed` names it (R120, R123). -/
structure Sound (s : State) (owed : List LinkIx) : Prop where
  paired : s.RecallsPaired
  room : ∀ l, (s.link l).generalFrames + s.promised l + owed.count l ≤ Config.generalPlaces
  reports : ∀ l, (s.link l).reports.Nodup

theorem transmitRoom_iff (s : State) : s.TransmitRoom ↔ Sound s [] := by
  constructor
  · rintro ⟨hpaired, hlinks⟩
    exact ⟨hpaired, fun l => (hlinks l).1, fun l => (hlinks l).2⟩
  · rintro ⟨hpaired, hroom, hreports⟩
    exact ⟨hpaired, fun l => ⟨hroom l, hreports l⟩⟩

/-- A bank without a recall. -/
def noRecall : InFlight := ⟨[], [], false⟩

/-- Recalls stay paired where each bank's stay as they are or leave with all that belongs to them. -/
theorem paired_of {s t : State} (h : s.RecallsPaired) (hfrom : EntriesFrom s.schedule t.schedule)
    (hfits : s.engine.StageFits → t.engine.StageFits) (hjobs : t.engine.jobs.length ≤ s.engine.jobs.length)
    (hflight : ∀ b, inFlight t b = inFlight s b ∨ inFlight t b = noRecall) : t.RecallsPaired := by
  rw [recallsPaired_iff] at h ⊢
  obtain ⟨htakes, hstage, hfour, hpaired⟩ := h
  refine ⟨linkedTakes_from hfrom htakes, hfits hstage, hjobs.trans hfour, fun b => ?_⟩
  obtain hb | hb := hflight b
  · exact hb ▸ hpaired b
  · exact hb ▸ .absent

theorem paired_bank {s : State} (h : s.RecallsPaired) (b : BankIx) : (inFlight s b).Paired :=
  ((recallsPaired_iff s).mp h).2.2.2 b

theorem paired_fits {s : State} (h : s.RecallsPaired) : s.engine.StageFits := ((recallsPaired_iff s).mp h).2.1

theorem inFlight_congr {s t : State} {b : BankIx}
    (hlist : t.schedule.filterMap (recallSeen b) = s.schedule.filterMap (recallSeen b))
    (hjobs : t.engine.jobs = s.engine.jobs) (hstaging : (t.bank b).staging = (s.bank b).staging) :
    inFlight t b = inFlight s b := by
  simp only [inFlight, hlist, hjobs, hstaging]

section
variable {s : State} {owed : List LinkIx} (h : Sound s owed)
include h

/-- What a change of the state takes of each link's places it takes from promises or from places kept. -/
theorem Sound.to {t : State} {owed' : List LinkIx} (hpaired : t.RecallsPaired)
    (hroom : ∀ l, ∃ n, Takes (s.link l) (t.link l) n ∧
      n + t.promised l + owed'.count l ≤ s.promised l + owed.count l) : Sound t owed' where
  paired := hpaired
  room l := by
    obtain ⟨n, ⟨hframes, -⟩, hcount⟩ := hroom l
    have := h.room l
    omega
  reports l := by
    obtain ⟨n, ⟨-, hreports⟩, -⟩ := hroom l
    exact hreports (h.reports l)

/-- Places kept may be given up. -/
theorem Sound.less {owed' : List LinkIx} (hsub : owed'.Sublist owed) : Sound s owed' :=
  h.to h.paired fun l => ⟨0, .refl _, by have := hsub.count_le l; omega⟩

/-- A change of nothing that the invariant speaks of but the links. -/
theorem Sound.frame {t : State} {owed' : List LinkIx}
    (hroom : ∀ l, ∃ n, Takes (s.link l) (t.link l) n ∧ n + owed'.count l ≤ owed.count l)
    (hschedule : t.schedule = s.schedule := by rfl) (hjobs : t.engine.jobs = s.engine.jobs := by rfl)
    (hfits : s.engine.StageFits → t.engine.StageFits := by exact id)
    (hstaging : ∀ b, (t.bank b).staging = (s.bank b).staging := by exact fun _ => rfl) : Sound t owed' := by
  refine h.to (paired_of h.paired (hschedule ▸ .refl _) hfits (by rw [hjobs]) fun b =>
    .inl (inFlight_congr (by rw [hschedule]) hjobs (hstaging b))) fun l => ?_
  obtain ⟨n, htakes, hcount⟩ := hroom l
  refine ⟨n, htakes, ?_⟩
  rw [promised_eq, promised_eq, hschedule, hjobs]
  omega

/-- A change of the links that takes no place. -/
theorem Sound.links {t : State} (htakes : ∀ l, Takes (s.link l) (t.link l) 0)
    (hschedule : t.schedule = s.schedule := by rfl) (hjobs : t.engine.jobs = s.engine.jobs := by rfl)
    (hfits : s.engine.StageFits → t.engine.StageFits := by exact id)
    (hstaging : ∀ b, (t.bank b).staging = (s.bank b).staging := by exact fun _ => rfl) : Sound t owed :=
  h.frame (fun l => ⟨0, htakes l, by omega⟩) hschedule hjobs hfits hstaging

/-- A change of nothing that the invariant speaks of. -/
theorem Sound.same {t : State} (hlinks : t.links = s.links := by rfl)
    (hschedule : t.schedule = s.schedule := by rfl) (hjobs : t.engine.jobs = s.engine.jobs := by rfl)
    (hfits : s.engine.StageFits → t.engine.StageFits := by exact id)
    (hstaging : ∀ b, (t.bank b).staging = (s.bank b).staging := by exact fun _ => rfl) : Sound t owed :=
  h.links (fun l => by rw [State.link, State.link, hlinks]; exact .refl _) hschedule hjobs hfits hstaging

/-! ### Links, claims and levers -/

theorem Sound.modLink (l : LinkIx) {f : Link → Link} (hf : Takes (s.link l) (f (s.link l)) 0) :
    Sound (s.modLink l f) owed :=
  h.links fun m => by
    by_cases hm : m = l
    · subst hm
      rwa [State.link_modLink_same]
    · rw [State.link_modLink_other s hm]
      exact .refl _

/-- Frames go to one link, which has places kept for them. -/
theorem Sound.modLinkTaking {l : LinkIx} {f : Link → Link} {n : Nat} (hf : Takes (s.link l) (f (s.link l)) n)
    (hkept : n ≤ owed.count l) : Sound (s.modLink l f) [] := by
  refine h.frame fun m => ?_
  by_cases hm : m = l
  · subst hm
    rw [State.link_modLink_same]
    exact ⟨n, hf, hkept⟩
  · rw [State.link_modLink_other s hm]
    exact ⟨0, .refl _, Nat.zero_le _⟩

theorem Sound.setClaims (claims : Vector (Option Claim) 25) : Sound (s.setClaims claims) owed := by
  refine h.links (fun l => ?_) rfl rfl id fun b => ?_
  · have htakes := foldl_place_takes s.now (claimReports s.claims claims) (s.link l)
    rwa [claimReports_places, ← State.link_setClaims] at htakes
  · rw [State.bank_setClaims]
    split <;> rfl

theorem Sound.linkLost (l : LinkIx) : Sound (s.linkLost l) owed := by
  refine Sound.setClaims (s := s.clearLeversOf l) (h.same rfl rfl rfl id fun b => ?_) _
  rw [bank_clearLeversOf]
  split <;> rfl

theorem Sound.settle (l : LinkIx) : Sound (s.settle l) owed := by
  unfold State.settle
  split
  · exact h
  · exact h.linkLost l

end

section
variable {s : State} {owed : List LinkIx}

/-- A frame to a link that has a place kept for it. -/
theorem Sound.send {l : LinkIx} (h : Sound s (l :: owed)) (f : TxFrame) : Sound (s.send l f) owed := by
  refine h.frame fun m => ?_
  by_cases hm : m = l
  · subst hm
    rw [State.link_send_same]
    refine ⟨_, place_takes s.now f _, ?_⟩
    rw [List.count_cons_self, places]
    split <;> omega
  · rw [State.link_send_other s hm]
    exact ⟨0, .refl _, by rw [List.count_cons_of_ne (Ne.symm hm)]; omega⟩

/-- A NOTICE to an origin that has a place kept for it (R120, R133). -/
theorem Sound.notify {o : Origin} (h : Sound s (originLinks o ++ owed)) (reason : Reason) (b : Option BankIx) :
    Sound (s.notify o reason b) owed := by
  cases o with
  | link p tag => exact Sound.send h _
  | line n => exact h.same

/-! ### The schedule list (R71, R72) -/

theorem filterMap_insertEntry {α : Type} {f : Entry → Option α} {e : Entry} (he : f e = none) (list : List Entry) :
    (insertEntry e list).filterMap f = list.filterMap f := by
  induction list with
  | nil => exact List.filterMap_cons_none he
  | cons x rest ih =>
    unfold insertEntry
    split
    · rw [List.filterMap_cons, List.filterMap_cons, ih]
    · exact List.filterMap_cons_none he

theorem filterMap_insertEntries {α : Type} {f : Entry → Option α} {es : List Entry} (hes : ∀ e ∈ es, f e = none)
    (list : List Entry) : (insertEntries es list).filterMap f = list.filterMap f := by
  induction es generalizing list with
  | nil => rfl
  | cons e es ih =>
    obtain ⟨he, hes⟩ := List.forall_mem_cons.mp hes
    exact (ih hes _).trans (filterMap_insertEntry he list)

/-- An entry is the only one of its kind in a list that had none. -/
theorem filterMap_insertEntry_only {α : Type} {f : Entry → Option α} {e : Entry} {x : α} (he : f e = some x)
    {list : List Entry} (hlist : list.filterMap f = []) : (insertEntry e list).filterMap f = [x] := by
  have hone : ∀ list : List Entry, list.filterMap f = [] → (e :: list).filterMap f = [x] := fun list hl => by
    rw [List.filterMap_cons_some he, hl]
  induction list with
  | nil => exact hone _ rfl
  | cons y rest ih =>
    unfold insertEntry
    obtain ⟨hy, hrest⟩ := List.forall_mem_cons.mp (List.filterMap_eq_nil_iff.mp hlist)
    split
    · rw [List.filterMap_cons_none hy, ih (List.filterMap_eq_nil_iff.mpr hrest)]
    · exact hone _ hlist

theorem linkedTakes_insert {es list : List Entry} (hes : ∀ e ∈ es, e.linked.isSome = true → e.action.isTake = true)
    (hlist : ∀ e ∈ list, e.linked.isSome = true → e.action.isTake = true) :
    ∀ e ∈ insertEntries es list, e.linked.isSome = true → e.action.isTake = true := by
  intro e he
  obtain he | he := mem_insertEntries.mp he
  · exact hes e he
  · exact hlist e he

theorem newEntries_linked {bs : List BankIx} {a : Action} (ha : 2 ≤ bs.length → a.isTake = true) (due : FieldNo)
    (o : Origin) (set : Nat) :
    ∀ e ∈ newEntries due o bs a set, e.linked.isSome = true → e.action.isTake = true := by
  intro e he hlinked
  obtain ⟨b, -, rfl⟩ := List.mem_map.mp he
  refine ha ?_
  by_contra hone
  simp [newEntry, hone] at hlinked

theorem entryPromises_newEntries (due : FieldNo) (o : Origin) (bs : List BankIx) (a : Action) (set : Nat) :
    entryPromises (newEntries due o bs a set) = bs.flatMap fun _ => originLinks o := by
  unfold entryPromises newEntries
  rw [List.flatMap_map]
  rfl

/-- An action that is no RECALL. -/
def NoRecall (a : Action) : Prop := ∀ r staged, a ≠ .recallEffect r staged

theorem recallSeen_of_noRecall {e : Entry} (h : NoRecall e.action) (b : BankIx) : recallSeen b e = none := by
  unfold recallSeen
  split
  · rename_i ha
    exact absurd ha (h _ _)
  · rfl

/-- New entries other than recalls take the places kept for their promises (R71, R120). -/
theorem Sound.insertAction {o : Origin} {bs : List BankIx} (h : Sound s ((bs.flatMap fun _ => originLinks o) ++ owed))
    (due : FieldNo) {a : Action} (ha : NoRecall a) (htake : 2 ≤ bs.length → a.isTake = true) :
    Sound (s.insertAction due o bs a) owed := by
  obtain ⟨htakes, hfits, hfour, hpaired⟩ := (recallsPaired_iff s).mp h.paired
  have hseen : ∀ b, inFlight (s.insertAction due o bs a) b = inFlight s b := fun b =>
    inFlight_congr (filterMap_insertEntries (fun e he => by
      obtain ⟨c, -, rfl⟩ := List.mem_map.mp he
      exact recallSeen_of_noRecall ha b) _) rfl rfl
  refine h.to ((recallsPaired_iff _).mpr
    ⟨linkedTakes_insert (newEntries_linked htake due o s.nextSet) htakes, hfits, hfour, fun b => hseen b ▸ hpaired b⟩)
    fun l => ⟨0, .refl _, ?_⟩
  rw [promised_eq, promised_eq, List.count_append]
  simp only [State.insertAction, count_insertEntries, entryPromises_newEntries]
  omega

/-! ### Supersede and removal (R88, R89, R162) -/

theorem inFlight_dropRecall (s : State) (b c : BankIx) :
    inFlight (s.dropRecall b) c = if c = b then noRecall else inFlight s c := by
  simp only [inFlight, State.dropRecall, dropRecall_jobs, recalls_without, recallJobs_without, State.bank, pick_upd]
  split
  · rfl
  · rfl

/-- A recall taken out of the part gives up its promise (R88, R162). -/
theorem Sound.dropRecall (h : Sound s owed) (b : BankIx) :
    Sound (s.dropRecall b) ((s.schedule.filterMap (recallSeen b)).flatMap (fun x => originLinks x.2.2) ++ owed) := by
  refine h.to (paired_of h.paired (.of_sublist List.filter_sublist) (fun hfits => dropRecall_fits hfits ..) ?_
    fun c => ?_) fun l => ⟨0, .refl _, ?_⟩
  · simp only [State.dropRecall, dropRecall_jobs]
    exact List.length_filter_le ..
  · rw [inFlight_dropRecall]
    split
    · exact .inr rfl
    · exact .inl rfl
  · rw [promised_eq, promised_eq, List.count_append, count_entryPromises b s.schedule]
    have hsub : (s.engine.jobs.filter fun j => !j.isRecallOf b).Sublist s.engine.jobs := List.filter_sublist
    have hjobs := (jobPromises_sublist hsub).count_le l
    simp only [State.dropRecall, dropRecall_jobs]
    omega

/-- The recall that a supersede finds is the one that its bank has (R88). -/
theorem recallOf_seen (h : s.RecallsPaired) {b : BankIx} {e : Entry} (he : s.recallOf b = some e) :
    ∃ r staged, s.schedule.filterMap (recallSeen b) = [(r, staged, e.origin)] := by
  have hrecall : e.isRecallOf b = true := List.find?_some he
  obtain ⟨x, hx⟩ := Option.isSome_iff_exists.mp (isRecallOf_eq b e ▸ hrecall)
  have hmem : x ∈ (inFlight s b).entries := List.mem_filterMap.mpr ⟨e, List.mem_of_find?_eq_some he, hx⟩
  have horigin := recallSeen_origin hx
  have hpaired := paired_bank h b
  have hentries : s.schedule.filterMap (recallSeen b) = (inFlight s b).entries := rfl
  rw [hentries]
  generalize inFlight s b = f at hpaired hmem
  cases hpaired with
  | absent => cases hmem
  | fetching r o =>
    rw [List.mem_singleton.mp hmem] at horigin
    exact ⟨r, false, by rw [← horigin]⟩
  | staged r o =>
    rw [List.mem_singleton.mp hmem] at horigin
    exact ⟨r, true, by rw [← horigin]⟩

/-- A bank of which the list has no recall has no recall job and no staged record (R85, R86). -/
theorem recallOf_none (h : s.RecallsPaired) {b : BankIx} (hb : s.recallOf b = none) : inFlight s b = noRecall := by
  have hentries : (inFlight s b).entries = [] := by
    refine List.filterMap_eq_nil_iff.mpr fun e he => recallSeen_of_not ?_
    simpa using List.find?_eq_none.mp hb e he
  have hpaired := paired_bank h b
  generalize inFlight s b = f at hpaired hentries
  cases hpaired with
  | absent => rfl
  | fetching r o => cases hentries
  | staged r o => cases hentries

theorem inFlight_notify (s : State) (o : Origin) (reason : Reason) (b : Option BankIx) (c : BankIx) :
    inFlight (s.notify o reason b) c = inFlight s c := rfl

theorem inFlight_supersede (h : s.RecallsPaired) (b c : BankIx) :
    inFlight (s.supersede b) c = if c = b then noRecall else inFlight s c := by
  unfold State.supersede
  split
  · rw [inFlight_notify, inFlight_dropRecall]
  · rename_i hnone
    split
    · rename_i hc
      exact hc ▸ recallOf_none h hnone
    · rfl

/-- The jobs that stand beside a new recall of a bank (R88, R161). -/
theorem supersede_jobs (h : s.RecallsPaired) (b : BankIx) :
    (s.supersede b).engine.jobs = s.engine.jobs.filter fun j => !j.isRecallOf b := by
  unfold State.supersede
  split
  · exact dropRecall_jobs ..
  · rename_i hnone
    have hjobs : s.engine.jobs.filterMap (Job.recallFor b) = [] := congrArg InFlight.jobs (recallOf_none h hnone)
    refine (List.filter_eq_self.mpr fun j hj => ?_).symm
    rw [← recallFor_isSome, List.filterMap_eq_nil_iff.mp hjobs j hj]
    rfl

/-- The promise of a superseded recall becomes its NOTICE (R88, R120). -/
theorem Sound.supersede (h : Sound s owed) (b : BankIx) : Sound (s.supersede b) owed := by
  unfold State.supersede
  split
  · rename_i e he
    obtain ⟨r, staged, hseen⟩ := recallOf_seen h.paired he
    have hdropped := h.dropRecall b
    rw [hseen] at hdropped
    have hkept : Sound (s.dropRecall b) (originLinks e.origin ++ owed) := by simpa using hdropped
    exact hkept.notify ..
  · exact h

theorem newEntries_one (due : FieldNo) (o : Origin) (b : BankIx) (a : Action) (set : Nat) :
    newEntries due o [b] a set = [newEntry due o b a none] := rfl

/-- A RECALL inserted takes the place of its bank's older one: a FETCHING entry and its job (R85, R88). -/
theorem Sound.insertRecall {o : Origin} (h : Sound s (originLinks o ++ owed)) (due : FieldNo) (b : BankIx)
    (register : Nat) (hroom : s.jobsBesideRecall b < Config.jobPlaces) :
    Sound (s.insertRecall due o b register) owed := by
  have hclear := inFlight_supersede h.paired b
  have hbeside : (s.supersede b).engine.jobs.length < Config.jobPlaces := by
    rw [supersede_jobs h.paired]
    exact hroom
  have hsuper := h.supersede b
  unfold State.insertRecall
  generalize s.supersede b = u at hclear hbeside hsuper
  obtain ⟨htakes, hfits, -, hpaired⟩ := (recallsPaired_iff u).mp hsuper.paired
  refine hsuper.to ((recallsPaired_iff _).mpr ⟨?_, ?_, ?_, fun c => ?_⟩) fun l => ⟨0, .refl _, ?_⟩
  · exact linkedTakes_insert (newEntries_linked (fun htwo => absurd htwo (by simp)) due o u.nextSet) htakes
  · exact enqueue_fits hfits ..
  · simp only [enqueue_jobs, List.length_append, List.length_singleton]
    exact hbeside
  · by_cases hc : c = b
    · subst hc
      have hnone := (hclear c).trans (if_pos rfl)
      have hlist : u.schedule.filterMap (recallSeen c) = [] := congrArg InFlight.entries hnone
      have hjobs : u.engine.jobs.filterMap (Job.recallFor c) = [] := congrArg InFlight.jobs hnone
      have hstaging : (u.bank c).staging.isSome = false := congrArg InFlight.staged hnone
      have hseen : recallSeen c (newEntry due o c (.recallEffect register false) none) = some (register, false, o) :=
        if_pos rfl
      have hjob : Job.recallFor c (.recallEffect c register o) = some (register, o) := if_pos rfl
      have hentry := filterMap_insertEntry_only hseen hlist
      have hqueue :
          (u.engine.jobs ++ [Job.recallEffect c register o]).filterMap (Job.recallFor c) = [(register, o)] := by
        rw [List.filterMap_append, hjobs, List.filterMap_cons_some hjob]
        rfl
      simp only [inFlight, enqueue_jobs]
      exact hentry ▸ hqueue ▸ hstaging ▸ .fetching register o
    · have hseen : ∀ e ∈ [newEntry due o b (.recallEffect register false) none], recallSeen c e = none := by
        intro e he
        rw [List.mem_singleton.mp he]
        exact if_neg (Ne.symm hc)
      have hjob : Job.recallFor c (.recallEffect b register o) = none := if_neg (Ne.symm hc)
      have hsame := hpaired c
      simpa [inFlight, State.insertAction, newEntries_one, filterMap_insertEntries hseen, hjob, State.bank] using hsame
  · rw [promised_eq, promised_eq, List.count_append]
    simp only [State.insertAction, count_insertEntries, newEntries_one, enqueue_jobs, jobPromises_append,
      List.count_append, entryPromises_cons, entryPromises_nil, List.append_nil]
    simp only [jobPromises, jobLinks, newEntry, List.flatMap_cons, List.flatMap_nil, List.append_nil, List.count_nil]
    omega

/-- A bank's recalls in the list are one entry at most (R88). -/
theorem recall_unique (h : s.RecallsPaired) {b : BankIx} {e x : Entry} (he : e ∈ s.schedule)
    (hx : x ∈ s.schedule) (heb : e.isRecallOf b = true) (hxb : x.isRecallOf b = true) : e = x := by
  have hone := ((paired_iff s b).mpr (paired_bank h b)).1
  have hef := List.mem_filter.mpr ⟨he, heb⟩
  have hxf := List.mem_filter.mpr ⟨hx, hxb⟩
  generalize s.schedule.filter (Entry.isRecallOf b) = list at hone hef hxf
  obtain _ | ⟨y, _ | ⟨z, rest⟩⟩ := list
  · cases hef
  · rw [List.mem_singleton.mp hef, List.mem_singleton.mp hxf]
  · simp at hone

/-- The banks whose recalls a CANCEL removes (R89). -/
def cancelledRecalls (s : State) (l : LinkIx) (tag : Byte) : List BankIx :=
  (indices 4).filter fun b => (s.schedule.filter (Entry.cancelledBy l tag)).any (Entry.isRecallOf b)

theorem mem_cancelledRecalls (s : State) (l : LinkIx) (tag : Byte) (b : BankIx) :
    b ∈ cancelledRecalls s l tag ↔ ∃ e ∈ s.schedule, e.cancelledBy l tag = true ∧ e.isRecallOf b = true := by
  simp [cancelledRecalls]

theorem inFlight_cancel (h : s.RecallsPaired) (l : LinkIx) (tag : Byte) (b : BankIx) :
    inFlight (s.cancel l tag) b = if b ∈ cancelledRecalls s l tag then noRecall else inFlight s b := by
  have hjobs : (s.cancel l tag).engine.jobs.filterMap (Job.recallFor b) =
      if b ∈ cancelledRecalls s l tag then [] else s.engine.jobs.filterMap (Job.recallFor b) := by
    have hengine : (s.cancel l tag).engine = dropRecalls s.engine s.now s.items (cancelledRecalls s l tag) := rfl
    rw [hengine, dropRecalls_jobs, recallJobs_withoutAll]
  have hbank : ((s.cancel l tag).bank b).staging =
      if b ∈ cancelledRecalls s l tag then none else (s.bank b).staging := by
    have htab : (s.cancel l tag).bank b =
        if (cancelledRecalls s l tag).contains b then { s.bank b with staging := none } else s.bank b := pick_tab ..
    rw [htab]
    simp only [List.contains_iff_mem]
    split <;> rfl
  have hlist : (s.cancel l tag).schedule.filterMap (recallSeen b) =
      if b ∈ cancelledRecalls s l tag then [] else s.schedule.filterMap (recallSeen b) := by
    split
    · rename_i hb
      obtain ⟨x, hx, hgone, hxb⟩ := (mem_cancelledRecalls ..).mp hb
      refine List.filterMap_eq_nil_iff.mpr fun e he => recallSeen_of_not ?_
      obtain ⟨he, hkept⟩ := List.mem_filter.mp he
      cases heb : e.isRecallOf b
      · rfl
      · rw [recall_unique h he hx heb hxb, hgone] at hkept
        cases hkept
    · rename_i hb
      refine filterMap_recallSeen_filter b _ fun e he hgone => recallSeen_of_not ?_
      by_contra heb
      exact hb ((mem_cancelledRecalls ..).mpr ⟨e, he, by simpa using hgone, by simpa using heb⟩)
  simp only [inFlight, hjobs, hbank, hlist]
  split <;> rfl

/-- A CANCEL gives up the promises of what it removes (R89, R120). -/
theorem Sound.cancel (h : Sound s owed) (l : LinkIx) (tag : Byte) : Sound (s.cancel l tag) owed := by
  have hengine : (s.cancel l tag).engine = dropRecalls s.engine s.now s.items (cancelledRecalls s l tag) := rfl
  have hjobs : (s.cancel l tag).engine.jobs.Sublist s.engine.jobs := by
    rw [hengine, dropRecalls_jobs]
    exact List.filter_sublist
  have hlist : (s.cancel l tag).schedule.Sublist s.schedule := List.filter_sublist
  refine h.to (paired_of h.paired (.of_sublist hlist) (fun hfits => dropRecalls_fits hfits ..) hjobs.length_le
    fun b => ?_) fun m => ⟨0, .refl _, ?_⟩
  · rw [inFlight_cancel h.paired]
    split
    · exact .inr rfl
    · exact .inl rfl
  · rw [promised_eq, promised_eq]
    have hentries := (entryPromises_sublist hlist).count_le m
    have hpromises := (jobPromises_sublist hjobs).count_le m
    omega

end

end Sys2Proof.Schedule
end

section
/-! Recalls in flight and the room of the transmit queues under the sweep (R76 to R84), the field (R142, R153) and the
Memory Engine (R86, R87, R159 to R162). -/

open Sys2Proof Sys2Proof.Machine Sys2Proof.TransitionController Sys2Proof.TransitionArithmetic

namespace Sys2Proof.Schedule

section
variable {s : State} {owed : List LinkIx}

/-! ### Entries leave, or stay with their marks changed (R76) -/

theorem Sound.endSweep (h : Sound s owed) (n : FieldNo) : Sound (s.endSweep n) owed :=
  h.same rfl rfl rfl id fun b => by
    rw [bank_endSweep]
    split <;> rfl

theorem Sound.settleSweep (h : Sound s owed) : Sound s.settleSweep owed := by
  unfold State.settleSweep
  split
  · split
    · exact h.endSweep _
    · exact h
  · exact h

/-- Entries keep what they are where only the marks of the sweep change. -/
theorem Sound.relist {t : State} (h : Sound s owed) (hfrom : EntriesFrom s.schedule t.schedule)
    (hseen : ∀ b, t.schedule.filterMap (recallSeen b) = s.schedule.filterMap (recallSeen b))
    (hpromises : entryPromises t.schedule = entryPromises s.schedule)
    (hlinks : t.links = s.links := by rfl) (hengine : t.engine = s.engine := by rfl)
    (hstaging : ∀ b, (t.bank b).staging = (s.bank b).staging := by exact fun _ => rfl) : Sound t owed := by
  refine h.to (paired_of h.paired hfrom (hengine ▸ id) (by rw [hengine]) fun b =>
    .inl (inFlight_congr (hseen b) (by rw [hengine]) (hstaging b))) fun l => ⟨0, ?_, ?_⟩
  · rw [State.link, State.link, hlinks]
    exact .refl _
  · rw [promised_eq, promised_eq, hpromises, hengine]
    omega

theorem Sound.startSweep (h : Sound s owed) (n : FieldNo) : Sound (s.startSweep n) owed := by
  refine Sound.settleSweep (h.relist (.map _ fun e => ⟨rfl, rfl⟩) (fun b => ?_) ?_)
  · rw [List.filterMap_map]
    rfl
  · exact entryPromises_map (f := fun e => { e with dealt := false }) (fun _ => rfl) _

/-- A bank deferred keeps its record in staging (R78). -/
theorem staging_upd_working (s : State) (b c : BankIx) (f : Bank → BankRecord) :
    (pick (upd s.banks b fun k => { k with working := f k }) c).staging = (s.bank c).staging := by
  rw [pick_upd]
  split
  · rename_i hc
    rw [hc]
    rfl
  · rfl

/-- An entry that is no recall leaves its promise behind (R79, R80). -/
theorem Sound.leave {left rest : List Entry} {e : Entry} (h : Sound s owed) (hlist : s.schedule = left ++ e :: rest)
    (he : ∀ b, recallSeen b e = none) : Sound { s with schedule := left ++ rest } (originLinks e.origin ++ owed) := by
  refine h.to (paired_of h.paired (.of_sublist ?_) id (Nat.le_refl _) fun b => .inl (inFlight_congr ?_ rfl rfl))
    fun l => ⟨0, .refl _, ?_⟩
  · rw [hlist]
    exact List.Sublist.append_left (List.sublist_cons_self e rest) left
  · simp only [hlist, List.filterMap_append, List.filterMap_cons_none (he b)]
  · rw [promised_eq, promised_eq, hlist]
    simp only [entryPromises_append, entryPromises_cons, List.count_append]
    omega

/-- A recall leaves with its job and its record, and its promise behind (R162, R166). -/
theorem Sound.leaveRecall {t : State} {left rest : List Entry} {e : Entry} (h : Sound s owed)
    (hlist : s.schedule = left ++ e :: rest) (he : e.isRecallOf e.bank = true)
    (hschedule : t.schedule = left ++ rest) (hfits : s.engine.StageFits → t.engine.StageFits)
    (hjobs : t.engine.jobs.Sublist s.engine.jobs)
    (hflight : ∀ c, t.engine.jobs.filterMap (Job.recallFor c) =
      if c = e.bank then [] else s.engine.jobs.filterMap (Job.recallFor c))
    (hstaging : ∀ c, (t.bank c).staging = if c = e.bank then none else (s.bank c).staging)
    (hlinks : t.links = s.links := by rfl) : Sound t (originLinks e.origin ++ owed) := by
  have hseen : ∀ c, t.schedule.filterMap (recallSeen c) =
      if c = e.bank then [] else s.schedule.filterMap (recallSeen c) := by
    intro c
    rw [hschedule]
    split
    · rename_i hc
      subst hc
      refine List.filterMap_eq_nil_iff.mpr fun x hx => ?_
      have hone := ((paired_iff s e.bank).mpr (paired_bank h.paired e.bank)).1
      rw [length_recalls, hlist, List.filterMap_append, List.length_append] at hone
      obtain ⟨y, hy⟩ := Option.isSome_iff_exists.mp (isRecallOf_eq e.bank e ▸ he)
      rw [List.filterMap_cons_some hy, List.length_cons] at hone
      have hleft : left.filterMap (recallSeen e.bank) = [] := List.eq_nil_of_length_eq_zero (by omega)
      have hrest : rest.filterMap (recallSeen e.bank) = [] := List.eq_nil_of_length_eq_zero (by omega)
      exact (List.mem_append.mp hx).elim (List.filterMap_eq_nil_iff.mp hleft x) (List.filterMap_eq_nil_iff.mp hrest x)
    · rename_i hc
      rw [hlist, List.filterMap_append, List.filterMap_append,
        List.filterMap_cons_none (recallSeen_of_other he hc)]
  refine h.to (paired_of h.paired (.of_sublist ?_) hfits hjobs.length_le fun c => ?_) fun l => ⟨0, ?_, ?_⟩
  · rw [hlist, hschedule]
    exact List.Sublist.append_left (List.sublist_cons_self e rest) left
  · simp only [inFlight, hseen, hflight, hstaging]
    split
    · exact .inr rfl
    · exact .inl rfl
  · rw [State.link, State.link, hlinks]
    exact .refl _
  · have hcount := (jobPromises_sublist hjobs).count_le l
    rw [promised_eq, promised_eq, hlist, hschedule]
    simp only [entryPromises_append, entryPromises_cons, List.count_append]
    omega

theorem isRecallOf_of_action {e : Entry} {r : Nat} {staged : Bool} (h : e.action = .recallEffect r staged) :
    e.isRecallOf e.bank = true := by
  simp [Entry.isRecallOf, h]

/-- An entry refused: its promise becomes its NOTICE, and a recall leaves whole (R79, R162, R166). -/
theorem Sound.refuseEntry {left rest : List Entry} {e : Entry} (h : Sound s owed)
    (hlist : s.schedule = left ++ e :: rest) (reason : Reason) :
    Sound (State.refuseEntry { s with schedule := left ++ rest } e reason) owed := by
  unfold State.refuseEntry
  refine Sound.notify ?_ reason _
  split
  · rename_i r staged ha
    refine h.leaveRecall hlist (isRecallOf_of_action ha) rfl (fun hfits => dropRecall_fits hfits ..) ?_ (fun c => ?_)
      fun c => ?_
    · rw [dropRecall_jobs]
      exact List.filter_sublist
    · rw [dropRecall_jobs, recallJobs_without]
    · simp only [State.bank, pick_upd]
      split <;> rfl
  · rename_i ha
    exact h.leave hlist fun b => recallSeen_of_noRecall (fun r staged he => ha r staged he) b

/-- A RECALL performed takes the record out of staging, and no other action does (R166). -/
theorem perform_staging (k : Bank) (a : Action) (n : FieldNo) (dwell prepare : Nat) :
    (k.perform a n dwell prepare).staging = match a with
      | .recallEffect _ _ => none
      | _ => k.staging := by
  cases a with
  | recallEffect r staged =>
    simp only [Bank.perform]
    split
    · rfl
    · assumption
  | auto =>
    simp only [Bank.perform, Bank.auto]
    split <;> rfl
  | _ => rfl

theorem perform_staging_noRecall {a : Action} (ha : NoRecall a) (k : Bank) (n : FieldNo) (dwell prepare : Nat) :
    (k.perform a n dwell prepare).staging = k.staging := by
  rw [perform_staging]
  split
  · exact absurd rfl (ha _ _)
  · rfl

/-- An action performed, with its notice if there is one; a place kept for a notice that is not sent is given up
(R80). -/
theorem Sound.notice {o : Origin} (h : Sound s (originLinks o ++ owed)) (note : Option Reason) (b : BankIx) :
    Sound (match note with
      | some reason => s.notify o reason (some b)
      | none => s) owed := by
  cases note with
  | none => exact h.less (List.sublist_append_right ..)
  | some reason => exact h.notify ..

/-- An entry that is no recall applied, once it has left the list (R80). -/
theorem Sound.applyAction {e : Entry} (h : Sound s (originLinks e.origin ++ owed)) (he : NoRecall e.action) (w : Sweep)
    (count : Nat) (note : Option Reason) : Sound (s.applyEntry w e count note) owed := by
  refine Sound.notice (s := State.perform { s with sweep := some { w with used := w.used + count } } e.bank e.action
    w.target) (h.same rfl rfl rfl id fun b => ?_) note e.bank
  simp only [State.perform, State.bank, pick_upd]
  split
  · rename_i hb
    rw [hb, perform_staging_noRecall he]
  · rfl

theorem not_fetching_of_applied {w : Sweep} {e : Entry} {count : Nat} {note : Option Reason}
    (h : s.outcomeOf w e = .applied count note) : e.fetching = false := by
  unfold State.outcomeOf at h
  split_ifs at h with _ _ hfetching
  exact Bool.eq_false_iff.mpr hfetching

/-- A STAGED recall has no job any more (R86). -/
theorem staged_no_jobs (h : s.RecallsPaired) {e : Entry} (he : e ∈ s.schedule) {r : Nat}
    (ha : e.action = .recallEffect r true) : s.engine.jobs.filterMap (Job.recallFor e.bank) = [] := by
  have hseen : recallSeen e.bank e = some (r, true, e.origin) := by simp [recallSeen, ha]
  have hmem : (r, true, e.origin) ∈ (inFlight s e.bank).entries := List.mem_filterMap.mpr ⟨e, he, hseen⟩
  have hpaired := paired_bank h e.bank
  have hjobs : s.engine.jobs.filterMap (Job.recallFor e.bank) = (inFlight s e.bank).jobs := rfl
  rw [hjobs]
  generalize inFlight s e.bank = f at hpaired hmem
  cases hpaired with
  | absent => rfl
  | fetching r o => simp at hmem
  | staged r o => rfl

/-- What becomes of a due entry outside a linked set (R77). -/
theorem Sound.dealEntry {left rest : List Entry} {e : Entry} (h : Sound s owed) (w : Sweep)
    (hlist : s.schedule = left ++ e :: rest) : Sound (s.dealEntry w e left rest) owed := by
  unfold State.dealEntry
  split
  · rename_i count _
    refine h.relist ?_ (fun b => ?_) ?_ rfl rfl fun b => staging_upd_working s ..
    · rw [hlist]
      have hmarked : EntriesFrom [e] [{ e with count := count, dealt := true }] :=
        ⟨Nat.le_refl _, fun x hx => ⟨e, List.mem_cons_self, by rw [List.mem_singleton.mp hx], by
          rw [List.mem_singleton.mp hx]⟩⟩
      exact (EntriesFrom.refl left).append (hmarked.append (.refl rest))
    · rw [hlist]
      simp only [State.deferBank, List.filterMap_append, List.filterMap_cons]
      rfl
    · rw [hlist]
      simp only [State.deferBank, entryPromises_append, entryPromises_cons]
  · exact h.refuseEntry hlist _
  · rename_i count note hout
    by_cases hrecall : ∃ r staged, e.action = .recallEffect r staged
    · obtain ⟨r, staged, ha⟩ := hrecall
      have hstaged : staged = true := by
        have hfetching := not_fetching_of_applied hout
        simpa [Entry.fetching, ha] using hfetching
      subst hstaged
      refine Sound.notice (s := State.perform { s with
        schedule := left ++ rest, sweep := some { w with used := w.used + count } } e.bank e.action w.target)
        (h.leaveRecall hlist (isRecallOf_of_action ha) rfl id (.refl _) (fun c => ?_) fun c => ?_) note e.bank
      · split
        · rename_i hc
          exact hc ▸ staged_no_jobs h.paired (by rw [hlist]; simp) ha
        · rfl
      · simp only [State.perform, State.bank, pick_upd]
        split
        · rw [perform_staging, ha]
        · rfl
    · have hno : NoRecall e.action := fun r staged ha => hrecall ⟨r, staged, ha⟩
      exact Sound.applyAction (h.leave hlist (recallSeen_of_noRecall hno)) hno w count note

/-! ### Linked sets (R83) -/

theorem noRecall_take {a : Action} (h : a.isTake = true) : NoRecall a := by
  rintro r staged rfl
  cases h

/-- A take refused brings its NOTICE alone (R79). -/
theorem refuseEntry_take {e : Entry} (he : e.action.isTake = true) (s : State) (reason : Reason) :
    s.refuseEntry e reason = s.notify e.origin reason (some e.bank) := by
  unfold State.refuseEntry
  split
  · rename_i ha
    exact absurd ha (noRecall_take he _ _)
  · rfl

theorem Sound.refuseMembers (members : List Entry) (h : Sound s (entryPromises members ++ owed))
    (htakes : ∀ e ∈ members, e.action.isTake = true) (reason : Reason) :
    Sound (members.foldl (fun t e => t.refuseEntry e reason) s) owed := by
  induction members generalizing s with
  | nil => exact h
  | cons e members ih =>
    obtain ⟨he, htakes⟩ := List.forall_mem_cons.mp htakes
    rw [entryPromises_cons, List.append_assoc] at h
    refine ih ?_ htakes
    dsimp only
    rw [refuseEntry_take he]
    exact h.notify ..

theorem Sound.dealMembers (w : Sweep) (ms : List (Entry × Judgement))
    (h : Sound s (entryPromises (ms.map Prod.fst) ++ owed)) (htakes : ∀ m ∈ ms, m.1.action.isTake = true) :
    Sound (ms.foldl (fun t m => t.dealMember w m.1 m.2) s) owed := by
  induction ms generalizing s with
  | nil => exact h
  | cons m ms ih =>
    obtain ⟨hm, htakes⟩ := List.forall_mem_cons.mp htakes
    rw [List.map_cons, entryPromises_cons, List.append_assoc] at h
    refine ih ?_ htakes
    obtain ⟨e, judged⟩ := m
    cases judged with
    | refuse reason =>
      have hrefused : Sound (s.refuseEntry e reason) (entryPromises (ms.map Prod.fst) ++ owed) := by
        rw [refuseEntry_take hm]
        exact h.notify ..
      exact hrefused
    | holdBack => exact h.less (List.sublist_append_right ..)
    | goAhead count note => exact h.applyAction (noRecall_take hm) w count note

/-- The members of a linked set leave the list, and the places of their promises stay kept (R83). -/
theorem Sound.leaveMembers {members left rest : List Entry} (h : Sound s owed)
    (hlist : s.schedule = left ++ members ++ rest) (htakes : ∀ e ∈ members, e.action.isTake = true) :
    Sound { s with schedule := left ++ rest } (entryPromises members ++ owed) := by
  refine h.to (paired_of h.paired (.of_sublist ?_) id (Nat.le_refl _) fun b => .inl (inFlight_congr ?_ rfl rfl))
    fun l => ⟨0, .refl _, ?_⟩
  · rw [hlist]
    exact (List.sublist_append_left left members).append (.refl rest)
  · have hnone : members.filterMap (recallSeen b) = [] :=
      List.filterMap_eq_nil_iff.mpr fun e he => recallSeen_take (htakes e he) b
    simp only [hlist, List.filterMap_append, hnone, List.append_nil]
  · rw [promised_eq, promised_eq, hlist]
    simp only [entryPromises_append, List.count_append]
    omega

/-- A linked set: refused for age, deferred as a whole, or each member dealt with (R83). -/
theorem Sound.dealSet {members left rest : List Entry} (h : Sound s owed) (w : Sweep)
    (hlist : s.schedule = left ++ members ++ rest) (htakes : ∀ e ∈ members, e.action.isTake = true) :
    Sound (s.dealSet w members left rest) owed := by
  have hcut := h.leaveMembers hlist htakes
  unfold State.dealSet
  split
  · exact hcut.refuseMembers members htakes .busy
  split
  · refine h.relist ?_ (fun b => ?_) ?_ rfl rfl fun b => ?_
    · rw [hlist]
      exact ((EntriesFrom.refl left).append (.map (f := deferMember w) members fun e => ⟨rfl, rfl⟩)).append (.refl rest)
    · simp only [hlist, List.filterMap_append, List.filterMap_map]
      rfl
    · simp only [hlist, entryPromises_append, entryPromises_map (f := deferMember w) fun _ => rfl]
    · simp only [State.bank, pick_tab]
      split <;> rfl
  · refine Sound.dealMembers w _ ?_ fun m hm => ?_
    · rw [List.map_map]
      have hfst : members.map (Prod.fst ∘ fun e => (e, s.judge e.bank e.action w.target)) = members :=
        List.map_id members
      rwa [hfst]
    · obtain ⟨e, he, rfl⟩ := List.mem_map.mp hm
      exact htakes e he

/-! ### The field (R13, R142, R149 to R153) -/

theorem Sound.fieldStart (h : Sound s owed) : Sound s.fieldStart owed := by
  have hraised : Sound { s with ref := { s.ref with counter := s.ref.counter + 1 } } owed := h.same
  exact (hraised.setClaims _).startSweep _

theorem Sound.synthetic (h : Sound s owed) : Sound s.synthetic owed :=
  Sound.fieldStart (s := { s with now := max s.now s.ref.deadline, ref := s.ref.syntheticStart }) h.same

theorem Sound.pulse (h : Sound s owed) : Sound s.pulse owed := by
  unfold State.pulse
  dsimp only
  split
  · exact h.same
  split
  · exact Sound.fieldStart (s := { s with ref := s.ref.realStart s.now }) h.same
  split
  · exact Sound.fieldStart (s := { s with ref := s.ref.relock s.now }) h.same
  · exact h.same

theorem Sound.publishBank (h : Sound s owed) (b : BankIx) (n : FieldNo) : Sound (s.publishBank b n) owed := by
  refine h.links (fun l => ?_) rfl rfl id fun c => ?_
  · simp only [State.publishBank, State.link]
    split
    · rw [pick_tab]
      exact place_takes s.now (.bankState b n _) _
    · exact .refl _
  · simp only [State.publishBank, State.bank, pick_upd]
    split
    · rename_i hc
      rw [hc]
      rfl
    · rfl

theorem Sound.gather (h : Sound s owed) (n : FieldNo) (b : BankIx) : Sound (s.gather n b) owed := by
  unfold State.gather
  dsimp only
  split
  · exact h.same
  · exact h.same

/-! ### The Memory Engine (R86, R87, R159 to R162) -/

/-- The job at the head has left the queue, and none is active yet (R161). -/
def withoutHead (s : State) : State := { s with engine := { s.engine with jobs := s.engine.jobs.tail, stage := none } }

theorem Sound.finishJob (h : Sound (withoutHead s) owed) : Sound s.finishJob owed :=
  h.same rfl rfl (activate_jobs ..) fun hfits => activate_fits hfits ..

theorem inFlight_withoutHead {j : Job} {rest : List Job} (hjobs : s.engine.jobs = j :: rest)
    (hj : ∀ b, j.recallFor b = none) (b : BankIx) : inFlight (withoutHead s) b = inFlight s b := by
  simp only [inFlight, withoutHead, hjobs, List.tail_cons, List.filterMap_cons_none (hj b)]
  rfl

/-- A job other than a recall leaves its promise behind (R120, R161). -/
theorem Sound.popJob {j : Job} {rest : List Job} (h : Sound s owed) (hjobs : s.engine.jobs = j :: rest)
    (hj : ∀ b, j.recallFor b = none) : Sound (withoutHead s) (jobLinks j ++ owed) := by
  refine h.to (paired_of h.paired (.refl _) (fun _ => stageFits_none rfl) ?_ fun b =>
    .inl (inFlight_withoutHead hjobs hj b)) fun l => ⟨0, .refl _, ?_⟩
  · exact (List.tail_sublist _).length_le
  · rw [promised_eq, promised_eq]
    simp only [withoutHead, hjobs, List.tail_cons, jobPromises_cons, List.count_append]
    omega

theorem Sound.popNone (h : Sound s owed) (hjobs : s.engine.jobs = []) : Sound (withoutHead s) owed :=
  h.same rfl rfl (by simp only [withoutHead, hjobs, List.tail_nil]) fun _ => stageFits_none rfl

/-- The recall at work: its entry is FETCHING, with its register and its origin (R85). -/
theorem recall_fetching (h : s.RecallsPaired) {b : BankIx} {r : Nat} {o : Origin} {rest : List Job}
    (hjobs : s.engine.jobs = .recallEffect b r o :: rest) : inFlight s b = ⟨[(r, false, o)], [(r, o)], false⟩ := by
  have hjob : Job.recallFor b (.recallEffect b r o) = some (r, o) := if_pos rfl
  have hwork : (inFlight s b).jobs = (r, o) :: rest.filterMap (Job.recallFor b) := by
    simp only [inFlight, hjobs, List.filterMap_cons_some hjob]
  have hpaired := paired_bank h b
  generalize inFlight s b = f at hpaired hwork
  cases hpaired with
  | absent => cases hwork
  | fetching r' o' =>
    injection hwork with hhead
    cases hhead
    rfl
  | staged r' o' => cases hwork

theorem recall_rest (h : s.RecallsPaired) {b : BankIx} {r : Nat} {o : Origin} {rest : List Job}
    (hjobs : s.engine.jobs = .recallEffect b r o :: rest) (c : BankIx) :
    rest.filterMap (Job.recallFor c) = if c = b then [] else s.engine.jobs.filterMap (Job.recallFor c) := by
  split
  · rename_i hc
    subst hc
    have hjob : Job.recallFor c (.recallEffect c r o) = some (r, o) := if_pos rfl
    have hwork : s.engine.jobs.filterMap (Job.recallFor c) = [(r, o)] :=
      congrArg InFlight.jobs (recall_fetching h hjobs)
    rw [hjobs, List.filterMap_cons_some hjob] at hwork
    exact (List.cons.inj hwork).2
  · rename_i hc
    have hjob : Job.recallFor c (.recallEffect b r o) = none := if_neg (Ne.symm hc)
    rw [hjobs, List.filterMap_cons_none hjob]

/-- A recall fails: its entry and its job leave, and its promise becomes the NOTICE to its origin (R87). -/
theorem Sound.recallFailed {b : BankIx} {r : Nat} {o : Origin} {rest : List Job} (h : Sound s owed)
    (hjobs : s.engine.jobs = .recallEffect b r o :: rest) (reason : Reason) :
    Sound (withoutHead (s.recallFailed b o reason)) owed := by
  have hflight := recall_fetching h.paired hjobs
  refine Sound.notify (s := withoutHead { s with schedule := s.schedule.filter fun e => !e.isRecallOf b }) ?_ reason
    (some b)
  refine h.to (paired_of h.paired (.of_sublist List.filter_sublist) (fun _ => stageFits_none rfl)
    (List.tail_sublist _).length_le fun c => ?_) fun l => ⟨0, .refl _, ?_⟩
  · by_cases hc : c = b
    · subst hc
      have hstaging : (s.bank c).staging.isSome = false := congrArg InFlight.staged hflight
      refine .inr ?_
      simp only [inFlight, withoutHead, hjobs, List.tail_cons, recalls_without, recall_rest h.paired hjobs,
        noRecall]
      exact congrArg (InFlight.mk [] []) hstaging
    · refine .inl ?_
      simp only [inFlight, withoutHead, recalls_without, if_neg hc]
      rw [hjobs, List.tail_cons, recall_rest h.paired hjobs, if_neg hc, ← hjobs]
      rfl
  · have hentries : s.schedule.filterMap (recallSeen b) = [(r, false, o)] := congrArg InFlight.entries hflight
    rw [promised_eq, promised_eq, count_entryPromises b s.schedule, hentries]
    simp only [withoutHead, hjobs, List.tail_cons, jobPromises_cons, List.count_append, List.flatMap_cons,
      List.flatMap_nil, List.append_nil]
    omega

theorem recallSeen_markStaged (b c : BankIx) (e : Entry) :
    recallSeen c (markStaged b e) =
      if c = b then (recallSeen c e).map fun x => (x.1, true, x.2.2) else recallSeen c e := by
  unfold markStaged recallSeen
  cases ha : e.action with
  | recallEffect r staged =>
    by_cases hb : e.bank = b
    · by_cases hc : c = b
      · simp [hb, hc]
      · simp [hb, hc, Ne.symm hc]
    · by_cases hc : c = b
      · simp [hb, hc, ha]
      · simp [hb, hc, ha]
  | _ => simp [ha]

/-- A recall's record is staged: its job leaves, and its entry stays, STAGED (R86, R166). -/
theorem Sound.recallStaged {b : BankIx} {r : Nat} {o : Origin} {rest : List Job} (h : Sound s owed)
    (hjobs : s.engine.jobs = .recallEffect b r o :: rest) (e : Effect) :
    Sound (withoutHead (s.recallStaged b e)) owed := by
  obtain ⟨htakes, -, hfour, hpaired⟩ := (recallsPaired_iff s).mp h.paired
  have hentries : s.schedule.filterMap (recallSeen b) = [(r, false, o)] :=
    congrArg InFlight.entries (recall_fetching h.paired hjobs)
  have hseen : ∀ c, (s.schedule.map (markStaged b)).filterMap (recallSeen c) =
      if c = b then [(r, true, o)] else s.schedule.filterMap (recallSeen c) := by
    intro c
    have hmark : (recallSeen c ∘ markStaged b) = fun e =>
        if c = b then (recallSeen c e).map fun x => (x.1, true, x.2.2) else recallSeen c e :=
      funext (recallSeen_markStaged b c)
    rw [List.filterMap_map, hmark]
    split
    · rename_i hc
      subst hc
      rw [← List.map_filterMap, hentries]
      rfl
    · rfl
  refine h.to ((recallsPaired_iff _).mpr ⟨linkedTakes_from (.map _ (markStaged_from b)) htakes, stageFits_none rfl,
    (List.tail_sublist _).length_le.trans hfour, fun c => ?_⟩) fun l => ⟨0, .refl _, ?_⟩
  · have hsame := hpaired c
    simp only [inFlight, withoutHead, State.recallStaged, hseen, hjobs, List.tail_cons,
      recall_rest h.paired hjobs, State.bank, pick_upd] at hsame ⊢
    split
    · exact .staged r o
    · exact hsame
  · have horigin : ∀ e, (markStaged b e).origin = e.origin := fun e => by
      unfold markStaged
      split
      · split <;> rfl
      · rfl
    rw [promised_eq, promised_eq]
    simp only [withoutHead, State.recallStaged, entryPromises_map horigin, hjobs, List.tail_cons, jobPromises_cons,
      List.count_append]
    omega

theorem startUp_engine (s : State) (outcome : Option (List (Nat × BitVec 16))) :
    (s.startUp outcome).engine = s.engine := by
  cases outcome with
  | none => rfl
  | some entries =>
    have hitems : ∀ t : State, (entries.foldl State.loadItem t).engine = t.engine := by
      induction entries with
      | nil => exact fun _ => rfl
      | cons entry entries ih =>
        intro t
        have hone : (t.loadItem entry).engine = t.engine := by
          unfold State.loadItem
          split
          · split <;> rfl
          · rfl
        exact (ih _).trans hone
    exact hitems s

theorem Sound.storeItem (h : Sound s owed) (number : Nat) (value : BitVec 16) : Sound (s.storeItem number value) owed :=
  h.same

theorem Sound.loadItem (h : Sound s owed) (entry : Nat × BitVec 16) : Sound (s.loadItem entry) owed := by
  unfold State.loadItem
  split
  · split
    · exact h.storeItem ..
    · exact h
  · exact h

theorem Sound.loadItems (entries : List (Nat × BitVec 16)) (h : Sound s owed) :
    Sound (entries.foldl State.loadItem s) owed := by
  induction entries generalizing s with
  | nil => exact h
  | cons entry entries ih => exact ih (h.loadItem entry)

theorem Sound.startUp (h : Sound s owed) (outcome : Option (List (Nat × BitVec 16))) :
    Sound (s.startUp outcome) owed := by
  cases outcome with
  | none => exact h.same
  | some entries => exact (h.loadItems entries).same

/-! ### The active job and its results (R86, R87, R163 to R171) -/

/-- The head of the queue has failed: a recall as R87 gives, a STORE or SAVE-CONFIG with its NOTICE in the place of its
promise, the load with no item stored (R120, R159). -/
theorem Sound.jobFailed (h : Sound s owed) (reason : Reason) : Sound (withoutHead (s.jobFailed reason)) owed := by
  unfold State.jobFailed
  split
  · rename_i hjobs
    exact h.recallFailed hjobs reason
  · rename_i l tag b _ _ _ hjobs
    exact Sound.send (s := withoutHead s) (h.popJob hjobs fun _ => rfl) (.notice tag reason (some b))
  · rename_i l tag _ hjobs
    exact Sound.send (s := withoutHead s) (h.popJob hjobs fun _ => rfl) (.notice tag reason none)
  · rename_i hjobs
    exact Sound.same (h.popJob hjobs fun _ => rfl)
  · rename_i hjobs
    exact h.popNone hjobs

/-- What an access brings the active job to is of the job's kind (R163 to R171). -/
def Suits (j : Job) : Progress → Prop
  | .readOn next _ => Serves next j
  | .writeOn _ => ∀ rest, Serves (.writing rest) j
  | .failed _ => True
  | .staged _ => ∃ b r o, j = .recallEffect b r o
  | .written => ∀ b, j.recallFor b = none
  | .loaded _ => ∀ b, j.recallFor b = none

theorem directoryRead_suits (b : BankIx) (r : Nat) (o : Origin) (got : List Byte) :
    Suits (.recallEffect b r o) (directoryRead got) := by
  unfold directoryRead
  dsimp only
  split_ifs <;> trivial

theorem descriptorRead_suits (b : BankIx) (r : Nat) (o : Origin) (start : Address) (length : Nat) (crc : BitVec 32)
    (read : List Descriptor) (got : List Byte) :
    Suits (.recallEffect b r o) (descriptorRead start length crc read got) := by
  unfold descriptorRead
  dsimp only
  split
  · split
    · trivial
    · split <;> trivial
  · split <;> trivial

theorem recordRead_suits (b : BankIx) (r : Nat) (o : Origin) (strapHigh : Bool) (crc : BitVec 32)
    (buffer : List Byte) : Suits (.recallEffect b r o) (recordRead strapHigh crc buffer) := by
  unfold recordRead
  split
  · trivial
  split
  · exact ⟨b, r, o, rfl⟩
  · trivial

theorem blockRead_suits (got : List Byte) : Suits .load (blockRead got) := by
  unfold blockRead
  dsimp only
  split
  · trivial
  split
  · exact fun _ => rfl
  split
  · trivial
  split
  · exact fun _ => rfl
  · exact fun _ => rfl

/-- An access brings a recall on through its directory, chain and fragments. -/
theorem advance_suits_recall (b : BankIx) (r : Nat) (o : Origin) {stage : Stage}
    (h : Serves stage (.recallEffect b r o)) (strapHigh : Bool) (access : Access) (data : Byte) :
    Suits (.recallEffect b r o) (advance strapHigh access data stage) := by
  cases stage with
  | directory got =>
    simp only [advance]
    split
    · trivial
    · exact directoryRead_suits ..
  | chain start length crc read got =>
    simp only [advance]
    split
    · trivial
    · exact descriptorRead_suits ..
  | fragments length crc read buffer =>
    simp only [advance]
    split
    · trivial
    · exact recordRead_suits ..
  | writing rest => cases h
  | loading got => cases h

theorem advance_suits {j : Job} {stage : Stage} (h : Serves stage j) (strapHigh : Bool) (access : Access)
    (data : Byte) :
    Suits j (advance strapHigh access data stage) := by
  cases j with
  | recallEffect b r o => exact advance_suits_recall b r o h strapHigh access data
  | store p tag b register record =>
    cases stage with
    | writing rest =>
      cases rest with
      | nil => exact fun _ => rfl
      | cons w rest => exact fun _ => trivial
    | _ => cases h
  | save p tag =>
    cases stage with
    | writing rest =>
      cases rest with
      | nil => exact fun _ => rfl
      | cons w rest => exact fun _ => trivial
    | _ => cases h
  | load =>
    cases stage with
    | loading got => exact blockRead_suits _
    | _ => cases h

theorem Sound.carryOn (h : Sound s owed) {j : Job} {p : Progress} (hhead : s.engine.jobs.head? = some j)
    (hp : Suits j p) : Sound (s.carryOn p) owed := by
  obtain ⟨rest, hjobs⟩ := List.head?_eq_some_iff.mp hhead
  cases p with
  | readOn stage a =>
    refine h.same rfl rfl rfl fun _ => (stageFits_iff _).mpr fun next hnext => ⟨j, hhead, ?_⟩
    cases hnext
    exact hp
  | writeOn writes =>
    refine h.same rfl rfl (writing_jobs ..) fun hfits => ?_
    cases writes with
    | nil => exact hfits
    | cons w writes =>
      refine (stageFits_iff _).mpr fun next hnext => ⟨j, hhead, ?_⟩
      cases hnext
      exact hp writes
  | failed reason => exact (h.jobFailed reason).finishJob
  | staged e =>
    obtain ⟨b, r, o, rfl⟩ := hp
    have hstaged : s.jobStaged e = s.recallStaged b e := by simp only [State.jobStaged, hjobs]
    rw [State.carryOn, hstaged]
    exact (h.recallStaged hjobs e).finishJob
  | written =>
    refine Sound.finishJob ?_
    have hpopped := h.popJob hjobs hp
    unfold State.jobWritten
    split
    · rename_i l tag b _ _ _ hstore
      rw [hstore] at hjobs
      cases hjobs
      exact Sound.send (s := withoutHead s) hpopped (.notice tag .done (some b))
    · rename_i l tag _ hsave
      rw [hsave] at hjobs
      cases hjobs
      exact Sound.send (s := withoutHead { s with cfgDefault := false }) (Sound.same hpopped) (.notice tag .done none)
    · exact hpopped.less (List.sublist_append_right ..)
  | loaded entries =>
    refine Sound.finishJob ?_
    have hstarted := h.startUp entries
    have hsame : (s.startUp entries).engine = s.engine := (startUp_engine s entries)
    exact (hstarted.popJob (by rw [hsame]; exact hjobs) hp).less (List.sublist_append_right ..)

theorem Sound.drained (h : Sound s owed) : Sound s.drained owed :=
  h.same rfl rfl (activate_jobs ..) fun hfits =>
    activate_fits (g := { s.engine with port := none }) (stageFits_of_head hfits rfl fun _ hj => hj) ..

theorem Sound.portIdle (h : Sound s owed) : Sound s.portIdle owed :=
  h.same rfl rfl rfl fun hfits => stageFits_of_head hfits rfl fun _ hj => hj

theorem Sound.ready (h : Sound s owed) (data : Byte) : Sound (s.ready data) owed := by
  unfold State.ready
  split
  · exact h
  · exact h.drained
  · rename_i hstage
    obtain ⟨j, hhead, hserves⟩ := (stageFits_iff s.engine).mp (paired_fits h.paired) _ hstage
    exact h.portIdle.carryOn hhead (advance_suits hserves ..)

theorem Sound.expired (h : Sound s owed) : Sound s.expired owed := by
  unfold State.expired
  split
  · exact h
  · rename_i access _ _
    exact Sound.drained (s := s.reach (access.raised + Config.memoryTime)) h.same
  · rename_i access _ _ _
    have hreached : Sound (s.reach (access.raised + Config.memoryTime)) owed := h.same
    exact (hreached.portIdle.jobFailed _).finishJob

theorem Sound.readyIn (h : Sound s owed) (data : Byte) (dt : Micros) : Sound (s.readyIn data dt) owed := by
  unfold State.readyIn
  split
  · exact Sound.same h.expired
  · exact Sound.ready (s := s.after dt) h.same data

end

end Sys2Proof.Schedule
end

section
/-! Recalls in flight and the room of the transmit queues under the Arbiter's requests (R123 to R137) and the GPI lines
(R173 to R175). -/

open Sys2Proof Sys2Proof.Machine Sys2Proof.TransitionController Sys2Proof.TransitionArithmetic

namespace Sys2Proof.Schedule

/-! ### The needs of requests (R123) -/

theorem one_le_need (body : Body) : 1 ≤ body.need := by
  cases body with
  | query subject argument =>
    change 1 ≤ if subject = 3 then 3 else 1
    split <;> decide
  | cut | auto | hold => exact Nat.le_add_right ..
  | select | keyCut | keySetup | transSetup | layers | recallEffect | store | saveConfig => exact Nat.le_succ 1
  | _ => exact Nat.le_refl 1

/-- A take on a mask is no RECALL, and its need covers its ACCEPT and its entries. -/
theorem takesMask_fits {p : Plan} {mask : Byte} {a : Action} (ha : a.isTake = true) (h : p.TakesMask mask a) :
    p.banks.length + 1 ≤ 1 + (maskBanks mask.toNat).length ∧ NoRecall p.action ∧
      (2 ≤ p.banks.length → p.action.isTake = true) := by
  obtain ⟨hbanks, haction, -⟩ := h
  have hmask : p.banks = maskBanks mask.toNat := hbanks
  refine ⟨by rw [hmask]; omega, ?_, fun _ => haction ▸ ha⟩
  rw [haction]
  exact noRecall_take ha

/-- A change of one bank that is no RECALL. -/
theorem oneBank_fits {p : Plan} {b : BankIx} (hbanks : p.banks = [b]) (haction : NoRecall p.action) :
    p.banks.length + 1 ≤ 2 ∧ NoRecall p.action ∧ (2 ≤ p.banks.length → p.action.isTake = true) := by
  rw [hbanks]
  exact ⟨Nat.le_refl _, haction, fun htwo => absurd htwo (Nat.not_succ_le_self 1)⟩

/-- A scheduled request needs a place for its ACCEPT and one for each of its entries (R123). -/
theorem plan_fits {s : State} {body : Body} {p : Plan} {lead : Byte} (h : s.planOf body = some (.ok p, lead)) :
    p.banks.length + 1 ≤ body.need ∧ NoRecall p.action ∧ (2 ≤ p.banks.length → p.action.isTake = true) := by
  have hasked := plan_asAsked h
  cases body with
  | cut | auto | hold => exact takesMask_fits rfl hasked
  | select =>
    obtain ⟨b, c, -, -, hbanks, haction, -⟩ := hasked
    exact oneBank_fits hbanks (by rw [haction]; exact fun r staged hr => nomatch hr)
  | keyCut =>
    obtain ⟨b, k, -, -, hbanks, haction, -⟩ := hasked
    exact oneBank_fits hbanks (by rw [haction]; exact fun r staged hr => nomatch hr)
  | keySetup =>
    obtain ⟨b, k, f, -, -, hbanks, haction, -⟩ := hasked
    exact oneBank_fits hbanks (by rw [haction]; exact fun r staged hr => nomatch hr)
  | transSetup =>
    obtain ⟨b, f, -, hbanks, haction, -⟩ := hasked
    exact oneBank_fits hbanks (by rw [haction]; exact fun r staged hr => nomatch hr)
  | layers =>
    obtain ⟨b, v, -, -, hbanks, haction, -⟩ := hasked
    exact oneBank_fits hbanks (by rw [haction]; exact fun r staged hr => nomatch hr)
  | _ => cases hasked

section
variable {s : State} {owed : List LinkIx} {o : Offer}

/-! ### The Arbiter (R123, R124) -/

/-- The uncommitted places of a link may be kept for frames to come (R123). -/
theorem Sound.keep (h : Sound s []) {l : LinkIx} {n : Nat} (hroom : n ≤ s.uncommitted l) :
    Sound s (List.replicate n l) where
  paired := h.paired
  reports := h.reports
  room m := by
    have hm := h.room m
    rw [List.count_replicate]
    split
    · rename_i hl
      rw [eq_of_beq hl] at hroom
      unfold State.uncommitted at hroom
      omega
    · exact hm

/-- The request leaves its queue (R124). -/
theorem Sound.takeRequest (h : Sound s owed) (o : Offer) : Sound (s.takeRequest o) owed := by
  refine Sound.modLink (s := { s with pointer := o.link }) h.same o.link ?_
  split
  · exact .of_eq rfl
  · unfold Link.leaveSetup
    dsimp only
    split
    · exact Takes.trans (.of_eq rfl) (flow_takes ..)
    · exact .of_eq rfl

/-- A request handed over has the places it needs (R123). -/
theorem Sound.handed (h : Sound s []) (ho : s.offer = some o) :
    Sound (s.takeRequest o) (List.replicate o.body.need o.link) := by
  obtain ⟨-, heligible, -⟩ := State.offer_spec ho
  obtain ⟨-, -, -, hneed⟩ := State.eligible_spec heligible
  exact (h.keep hneed).takeRequest o

/-- A request handed over has a place for its answer. -/
theorem Sound.handedOne (h : Sound s []) (ho : s.offer = some o) : Sound (s.takeRequest o) [o.link] :=
  (h.handed ho).less (List.replicate_sublist_replicate o.link |>.mpr (one_le_need o.body))

/-! ### Answers (R131, R132) -/

theorem Sound.refuse (h : Sound s owed) (hplace : o.link ∈ owed) (reason : Reason) (holder : Option LinkIx) :
    Sound (s.refuse o reason holder) [] :=
  Sound.send (h.less (List.singleton_sublist.mpr hplace)) _

theorem Sound.accept (h : Sound s (o.link :: owed)) (info : Accepted) : Sound (s.accept o info) owed := h.send _

theorem Sound.useElements (h : Sound s owed) (p : LinkIx) (es : List ElemIx) : Sound (s.useElements p es) owed :=
  h.setClaims _

/-! ### Requests (R126 to R137) -/

theorem flatMap_originLinks (bs : List BankIx) (l : LinkIx) (tag : Byte) :
    (bs.flatMap fun _ => originLinks (.link l tag)) = List.replicate bs.length l := by
  induction bs with
  | nil => rfl
  | cons b bs ih =>
    rw [List.flatMap_cons, ih]
    rfl

theorem Sound.serveScheduled {plan : Except Reason Plan} {lead : Byte} {t : State}
    (h : Sound s (List.replicate o.body.need o.link)) (hplan : t.planOf o.body = some (plan, lead)) :
    Sound (s.serveScheduled o plan lead) [] := by
  have hplace : o.link ∈ List.replicate o.body.need o.link :=
    List.mem_replicate.mpr ⟨Nat.ne_of_gt (one_le_need o.body), rfl⟩
  unfold State.serveScheduled
  split
  · exact h.refuse hplace ..
  rename_i p
  obtain ⟨hneed, hno, htake⟩ := plan_fits hplan
  split
  · exact h.refuse hplace ..
  split
  · exact h.refuse hplace ..
  · have hkept : Sound s ((p.banks.flatMap fun _ => originLinks (.link o.link o.tag)) ++ [o.link]) := by
      rw [flatMap_originLinks, ← List.replicate_one, ← List.replicate_add]
      exact h.less (List.replicate_sublist_replicate o.link |>.mpr hneed)
    exact (((hkept.useElements ..).insertAction _ hno htake).accept _).settle _

theorem Sound.serveRecall (h : Sound s [o.link, o.link]) (bank register lead : Byte) :
    Sound (s.serveRecall o bank register lead) [] := by
  have hplace : o.link ∈ [o.link, o.link] := List.mem_cons_self
  unfold State.serveRecall
  split
  · exact h.refuse hplace ..
  rename_i b register _
  split
  · exact h.refuse hplace ..
  split
  · exact h.refuse hplace ..
  split
  · exact h.refuse hplace ..
  · rename_i hjobs
    have hrecall := Sound.insertRecall (o := .link o.link o.tag) (owed := [o.link])
      (h.useElements o.link (bankElements b)) (s.dueField lead.toNat) b register (Nat.lt_of_not_le hjobs)
    exact (hrecall.accept _).settle _

theorem Sound.serveLever (h : Sound s [o.link]) (bank : Byte) (position : Nat) :
    Sound (s.serveLever o bank position) [] := by
  unfold State.serveLever
  split
  · exact h.refuse List.mem_cons_self ..
  split
  · exact h.refuse List.mem_cons_self ..
  · rename_i b _ _ _
    have hlever : Sound ((s.useElements o.link [transElement b]).writeLever o.link b position) [o.link] :=
      (h.useElements o.link [transElement b]).same rfl rfl rfl id fun c => by
        simp only [State.writeLever, State.bank, pick_upd]
        split
        · rename_i hc
          rw [hc]
        · rfl
    exact (hlever.less (List.nil_sublist _)).settle _

theorem Sound.serveClaim (h : Sound s [o.link]) (element : Byte) : Sound (s.serveClaim o element) [] := by
  unfold State.serveClaim
  split
  · exact h.refuse List.mem_cons_self ..
  split
  · exact h.refuse List.mem_cons_self ..
  · exact ((h.setClaims _).accept _).settle _

theorem Sound.serveRelease (h : Sound s [o.link]) (element : Byte) : Sound (s.serveRelease o element) [] := by
  unfold State.serveRelease
  split
  · exact h.refuse List.mem_cons_self ..
  split
  · exact (h.setClaims _).accept _
  · exact h.refuse List.mem_cons_self ..

theorem Sound.serveBreak (h : Sound s [o.link]) (element : Byte) : Sound (s.serveBreak o element) [] := by
  have hplace : o.link ∈ [o.link] := List.mem_cons_self
  unfold State.serveBreak
  split
  · exact h.refuse hplace ..
  split
  · exact h.refuse hplace ..
  split
  · exact h.refuse hplace ..
  split
  · exact h.refuse hplace ..
  split
  · exact h.refuse hplace ..
  · exact (h.setClaims _).accept _

/-- A STORE or SAVE-CONFIG job takes the place kept for its promise (R120, R161). -/
theorem Sound.queueJob {j : Job} (h : Sound s (jobLinks j ++ owed)) (hj : ∀ b, j.recallFor b = none)
    (hroom : s.engine.jobs.length < Config.jobPlaces) : Sound (s.queueJob j) owed := by
  obtain ⟨htakes, hfits, -, hpaired⟩ := (recallsPaired_iff s).mp h.paired
  have hseen : ∀ b, inFlight (s.queueJob j) b = inFlight s b := fun b => by
    simp only [inFlight, State.queueJob, enqueue_jobs, List.filterMap_append, List.filterMap_cons_none (hj b),
      List.filterMap_nil, List.append_nil]
    rfl
  refine h.to ((recallsPaired_iff _).mpr ⟨htakes, enqueue_fits hfits .., ?_, fun b => hseen b ▸ hpaired b⟩)
    fun l => ⟨0, .refl _, ?_⟩
  · simp only [State.queueJob, enqueue_jobs, List.length_append, List.length_singleton]
    exact hroom
  · rw [promised_eq, promised_eq, List.count_append]
    simp only [State.queueJob, enqueue_jobs, jobPromises_append, List.count_append, jobPromises_cons]
    simp only [jobPromises, List.flatMap_nil, List.count_nil]
    omega

theorem Sound.serveStore (h : Sound s [o.link, o.link]) (bank register : Byte) :
    Sound (s.serveStore o bank register) [] := by
  have hplace : o.link ∈ [o.link, o.link] := List.mem_cons_self
  unfold State.serveStore
  split
  · exact h.refuse hplace ..
  split
  · exact h.refuse hplace ..
  split
  · exact h.refuse hplace ..
  · rename_i b r _ _ hroom
    have hjob := Sound.queueJob (j := .store o.link o.tag b r (s.published b).snapshot) (owed := [o.link]) h
      (fun _ => rfl) (Nat.lt_of_not_le hroom)
    exact hjob.accept _

theorem Sound.serveSave (h : Sound s [o.link, o.link]) : Sound (s.serveSave o) [] := by
  have hplace : o.link ∈ [o.link, o.link] := List.mem_cons_self
  unfold State.serveSave
  split
  · exact h.refuse hplace ..
  split
  · exact h.refuse hplace ..
  · rename_i hroom
    have hjob := Sound.queueJob (j := .save o.link o.tag) (owed := [o.link]) (h.useElements o.link [systemElement])
      (fun _ => rfl) (Nat.lt_of_not_le hroom)
    exact (hjob.accept _).settle _

theorem Sound.serveCancel (h : Sound s [o.link]) (tag : Byte) : Sound (s.serveCancel o tag) [] := by
  unfold State.serveCancel
  dsimp only
  split
  · exact h.refuse List.mem_cons_self ..
  · exact (h.cancel ..).accept _

theorem Sound.pruneAfter (h : Sound s owed) (number : Nat) : Sound (s.pruneAfter number) owed := by
  unfold State.pruneAfter
  split
  · exact h.setClaims _
  · exact h

theorem Sound.serveConfig (h : Sound s [o.link]) (item : Byte) (value : BitVec 16) :
    Sound (s.serveConfig o item value) [] := by
  unfold State.serveConfig
  split
  · exact h.refuse List.mem_cons_self ..
  split
  · exact h.refuse List.mem_cons_self ..
  · exact ((((h.useElements ..).storeItem ..).pruneAfter _).accept _).settle _

/-- A soft RESET leaves no frame to send, no promise and no recall (R137). -/
theorem Sound.softReset (h : Sound s owed) : Sound s.softReset owed := by
  refine h.to (paired_of h.paired (.of_sublist (List.nil_sublist _)) (fun _ => ?_) (Nat.zero_le _) fun b => .inr ?_)
    fun l => ⟨0, ?_, ?_⟩
  · exact stageFits_none rfl
  · have hbank : s.softReset.bank b = Bank.default := Vector.getElem_replicate _
    simp only [inFlight, hbank]
    rfl
  · have hlink : s.softReset.link l = (s.link l).softReset := pick_tab ..
    rw [hlink]
    exact .of_sublist (List.nil_sublist _)
  · have hnone : s.softReset.promised l = 0 := rfl
    omega

theorem Sound.serveReset (h : Sound s [o.link]) : Sound (s.serveReset o) [] := by
  unfold State.serveReset
  split
  · exact h.refuse List.mem_cons_self ..
  · exact h.softReset.accept _

/-! ### Queries (R91, R136) -/

theorem Sound.queryOf (h : Sound s []) {subject : Byte} {serve : State → Offer → Byte → State}
    (hserve : ∀ t o a, Sound t (List.replicate (Body.need (.query subject a)) o.link) → Sound (serve t o a) []) :
    Sound (s.queryOf subject serve) [] := by
  unfold State.queryOf
  split
  · rename_i ho
    dsimp only
    split
    · rename_i hsubject
      subst hsubject
      exact hserve _ _ _ (h.handed ho)
    split
    · exact h
    · exact (h.handedOne ho).refuse List.mem_cons_self ..
  · exact h

theorem Sound.serveQueryBank (h : Sound s [o.link]) (argument : Byte) : Sound (s.serveQueryBank o argument) [] := by
  unfold State.serveQueryBank
  split
  · exact h.refuse List.mem_cons_self ..
  · exact h.send _

theorem Sound.serveQueryClaims (h : Sound s [o.link]) (argument : Byte) : Sound (s.serveQueryClaims o argument) [] := by
  unfold State.serveQueryClaims
  split
  · exact h.refuse List.mem_cons_self ..
  · exact h.send _

theorem length_scheduleReports (s : State) (o : Offer) :
    (s.scheduleReports o).length = max 1 (((s.schedule.filter fun e => e.origin.isLink o.link).length + 11) / 12) := by
  simp [State.scheduleReports, reportChunks]

theorem scheduleReports_places (s : State) (o : Offer) :
    ((s.scheduleReports o).map places).sum = (s.scheduleReports o).length := by
  have hone : (s.scheduleReports o).map places = List.replicate (s.scheduleReports o).length 1 := by
    refine List.eq_replicate_iff.mpr ⟨List.length_map _, fun n hn => ?_⟩
    obtain ⟨f, hf, rfl⟩ := List.mem_map.mp hn
    obtain ⟨c, -, rfl⟩ := List.mem_map.mp hf
    rfl
  rw [hone, List.sum_replicate, smul_eq_mul, Nat.mul_one]

/-- The entries of a link's own are promises of it, so its SCHEDULE-LIST reports are three at most (R91, R123). -/
theorem Sound.serveQuerySchedule (h : Sound s (List.replicate 3 o.link)) : Sound (s.serveQuerySchedule o) [] := by
  have htakes := foldl_place_takes s.now (s.scheduleReports o) (s.link o.link)
  rw [scheduleReports_places] at htakes
  refine h.modLinkTaking htakes ?_
  have hroom := h.room o.link
  have hown : (s.schedule.filter fun e => e.origin.isLink o.link).length ≤ s.promised o.link := Nat.le_add_right ..
  have hplaces : Config.generalPlaces = 31 := rfl
  rw [List.count_replicate_self] at hroom ⊢
  rw [length_scheduleReports]
  omega

theorem Sound.serveQueryGpi (h : Sound s [o.link]) (argument : Byte) : Sound (s.serveQueryGpi o argument) [] := by
  unfold State.serveQueryGpi
  split
  · exact h.refuse List.mem_cons_self ..
  · refine Sound.send ?_ _
    split
    · exact h.same
    · exact h

theorem Sound.serveQueryConfig (h : Sound s [o.link]) (argument : Byte) : Sound (s.serveQueryConfig o argument) [] := by
  unfold State.serveQueryConfig
  split
  · exact h.send _
  · exact h.refuse List.mem_cons_self ..

/-! ### GPI lines (R173 to R175) -/

theorem Sound.modLine (h : Sound s owed) (n : LineIx) (f : GpiLine → GpiLine) : Sound (s.modLine n f) owed := h.same

/-- The entries of a line promise no link a NOTICE (R120, R133). -/
theorem Sound.gpiTake (h : Sound s owed) (n : LineIx) {a : Action} (ha : a.isTake = true) :
    Sound (s.gpiTake n a) owed := by
  unfold State.gpiTake
  dsimp only
  split
  · exact h
  split
  · exact h.same
  · have hnone : ((s.gpiBanks n).flatMap fun _ => originLinks (.line n)) = [] :=
      List.flatMap_eq_nil_iff.mpr fun _ _ => rfl
    exact Sound.insertAction (o := .line n) (by rwa [hnone]) _ (noRecall_take ha) fun _ => ha

theorem Sound.gpiRecall (h : Sound s owed) (n : LineIx) : Sound (s.gpiRecall n) owed := by
  unfold State.gpiRecall
  dsimp only
  split
  · exact h
  split
  · exact h
  split
  · exact h.same
  · rename_i hdropped
    simp only [Bool.or_eq_true, decide_eq_true_eq, not_or] at hdropped
    obtain ⟨-, hjobs⟩ := hdropped
    exact Sound.insertRecall (o := .line n) h _ _ _ (Nat.lt_of_not_le hjobs)

theorem Sound.gpiAction (h : Sound s owed) (n : LineIx) : Sound (s.gpiAction n) owed := by
  unfold State.gpiAction
  split
  · exact h.gpiTake n rfl
  · exact h.gpiTake n rfl
  · exact h.gpiTake n rfl
  · exact h.gpiRecall n
  · exact h

theorem Sound.acceptEdge (h : Sound s owed) (n : LineIx) : Sound (s.acceptEdge n) owed := by
  unfold State.acceptEdge
  dsimp only
  split
  · exact (h.modLine n _).gpiAction n
  · exact h.modLine n _

theorem Sound.pinChange (h : Sound s owed) (n : LineIx) (level : Bool) : Sound (s.pinChange n level) owed := by
  unfold State.pinChange
  dsimp only
  split
  · exact h.modLine n _
  split
  · exact h.modLine n _
  split
  · exact (h.modLine n _).acceptEdge n
  · exact h.modLine n _

end

end Sys2Proof.Schedule
end

section
/-! Recalls in flight and the room of the transmit queues (R85 to R88, R120 to R123) at every command. -/

open Sys2Proof Sys2Proof.Machine Sys2Proof.TransitionController Sys2Proof.TransitionArithmetic

namespace Sys2Proof.Schedule

/-! ### Bytes arrive (R114 to R119) -/

theorem joinSetup_takes (now : Micros) (r : Request) (k : Link) : Takes k (k.joinSetup now r) 0 := by
  unfold Link.joinSetup
  dsimp only
  split
  · exact Takes.trans (.of_eq rfl) (flow_takes ..)
  · exact .of_eq rfl

/-- A good frame is answered QUEUEFULL only where a place is uncommitted (R118). -/
theorem arrive_takes (now : Micros) (room : Bool) (r : Request) (k : Link) :
    Takes k (k.arrive now room r) room.toNat := by
  have hnone : ∀ {j : Link}, Takes k j 0 → Takes k j room.toNat := fun h => by
    obtain ⟨hframes, hreports⟩ := h
    exact ⟨by omega, hreports⟩
  unfold Link.arrive
  split
  · exact hnone (.of_eq rfl)
  split
  · dsimp only
    split
    · have htakes := place_takes now (.refuse r.tag r.body.code .queueFull none)
        { k with overflow := countUp k.overflow }
      rename_i hroom
      rw [hroom]
      exact htakes
    · exact hnone (.of_eq rfl)
  · split
    · exact hnone (.of_eq rfl)
    · exact hnone (joinSetup_takes ..)

theorem discardFrame_takes (k : Link) : Takes k k.discardFrame 0 := .of_eq rfl

theorem checkGap_takes (now : Micros) (k : Link) : Takes k (k.checkGap now) 0 := by
  unfold Link.checkGap
  split
  · split
    · exact discardFrame_takes k
    · exact .refl k
  · exact .refl k

theorem takeByte_takes (now : Micros) (room : Bool) (y : RxByte) (k : Link) :
    Takes k (k.takeByte now room y) room.toNat := by
  have hsame : ∀ {j : Link}, j.tx = k.tx → Takes k j room.toNat := fun h => by
    obtain ⟨hframes, hreports⟩ := Takes.of_eq h
    exact ⟨by omega, hreports⟩
  unfold Link.takeByte
  split
  · split_ifs
    · exact hsame rfl
    · exact hsame rfl
    · exact hsame rfl
  · dsimp only
    split_ifs
    · exact hsame rfl
    · exact hsame rfl
    · exact hsame rfl
    · exact hsame rfl
    · exact arrive_takes now room _ { k with receiver := .hunting }
    · exact hsame rfl

section
variable {s : State}

theorem Sound.after (h : Sound s []) (dt : Micros) : Sound (s.after dt) [] := h.same

theorem Sound.reach (h : Sound s []) (moment : Micros) : Sound (s.reach moment) [] := h.same

/-- A QUEUEFULL commits a place only where one is uncommitted (R118). -/
theorem queueFull_room (s : State) (l : LinkIx) : (decide (0 < s.uncommitted l)).toNat ≤ s.uncommitted l := by
  by_cases hroom : 0 < s.uncommitted l
  · rw [decide_eq_true hroom]
    exact hroom
  · rw [decide_eq_false hroom]
    exact Nat.zero_le _

theorem Sound.byteIn (h : Sound s []) (l : LinkIx) (y : RxByte) (dt : Micros) : Sound (s.byteIn l y dt) [] := by
  have hafter := h.after dt
  unfold State.byteIn
  generalize s.after dt = u at hafter
  dsimp only
  have hkept : Sound u (List.replicate (decide (0 < u.uncommitted l)).toNat l) :=
    hafter.keep (queueFull_room u l)
  refine hkept.modLinkTaking (n := (decide (0 < u.uncommitted l)).toNat) ?_ (by rw [List.count_replicate_self])
  split
  · have htakes := (checkGap_takes u.now (u.link l)).trans
      (takeByte_takes u.now (decide (0 < u.uncommitted l)) y ((u.link l).checkGap u.now))
    rwa [Nat.zero_add] at htakes
  · exact ⟨Nat.le_add_right .., id⟩

theorem Sound.bytesIn (h : Sound s []) (l : LinkIx) (bytes : List RxByte) (dt : Micros) :
    Sound (s.bytesIn l bytes dt) [] := by
  induction bytes generalizing s dt with
  | nil => exact h.after dt
  | cons y rest ih =>
    cases rest with
    | nil => exact h.byteIn l y dt
    | cons z rest => exact ih (h.byteIn l y dt) Config.linkByteTime

end

/-! ### Commands -/

/-- Whatever state a command answers next, recalls stay paired and notices find room. -/
def AnswersSound (a : Answer) : Prop := ∀ t, a = .next t → Sound t []

theorem answersSound_next {t : State} (h : Sound t []) : AnswersSound (.next t) := by
  intro u hu
  cases hu
  exact h

/-- The state right after power-on: no entry, the load alone in the job queue, and nothing to send (R182). -/
theorem sound_powerOn (pending : List Instr) (strapHigh : Bool) (present : Vector Bool 6) (pins : Vector Bool 8) :
    Sound (State.atPowerOn pending strapHigh present pins) [] := by
  have hlink : ∀ l, (State.atPowerOn pending strapHigh present pins).link l = Link.atPowerOn (pick present l) :=
    fun l => pick_tab ..
  have hbank : ∀ b, (State.atPowerOn pending strapHigh present pins).bank b = Bank.default := fun b =>
    Vector.getElem_replicate _
  have hfour : 1 ≤ Config.jobPlaces := by decide
  refine ⟨(recallsPaired_iff _).mpr ⟨fun e he => (by cases he), trivial, hfour, fun b => ?_⟩, fun l => ?_, fun l => ?_⟩
  · simp only [inFlight, hbank]
    exact .absent
  · rw [hlink]
    exact Nat.zero_le _
  · rw [hlink]
    exact List.nodup_nil

section
variable {s : State} (h : Sound s [])
include h

theorem execSweepEntry_sound : AnswersSound (execSweepEntry s) := by
  unfold execSweepEntry
  split
  · exact answersSound_next h
  split
  · exact answersSound_next (h.endSweep _)
  rename_i e hdue
  split
  · have hlist : s.schedule = swept s.schedule ++ e :: (unswept s.schedule).tail := by
      rw [← unswept_of_nextDue hdue, swept_append_unswept]
    exact answersSound_next (h.dealEntry _ hlist).settleSweep
  · exact answersSound_next h

/-- The members of a linked set are takes (R71). -/
theorem setMembers_takes (set : Nat) :
    ∀ e ∈ setMembers set (unswept s.schedule), e.action.isTake = true := by
  obtain ⟨htakes, -, -, -⟩ := (recallsPaired_iff s).mp h.paired
  intro e he
  refine htakes e ?_ (linked_of_mem_setMembers he)
  rw [← swept_append_unswept s.schedule, ← setMembers_append_afterSet set (unswept s.schedule)]
  exact List.mem_append_right _ (List.mem_append_left _ he)

theorem execSweepLinkedSet_sound : AnswersSound (execSweepLinkedSet s) := by
  unfold execSweepLinkedSet
  split
  · exact answersSound_next h
  split
  · exact answersSound_next h
  split
  · exact answersSound_next h
  · rename_i set _
    have hlist : s.schedule = swept s.schedule ++ setMembers set (unswept s.schedule) ++
        afterSet set (unswept s.schedule) := by
      rw [List.append_assoc, setMembers_append_afterSet, swept_append_unswept]
    exact answersSound_next (h.dealSet _ hlist (setMembers_takes h set)).settleSweep

theorem execFieldUpdate_sound (b : BankIx) : AnswersSound (execFieldUpdate b s) := by
  unfold execFieldUpdate
  split
  · exact answersSound_next ((h.publishBank ..).gather ..)
  · exact answersSound_next h

theorem execPresentChange_sound (l : LinkIx) (asserted : Bool) (dt : Micros) :
    AnswersSound (execPresentChange l asserted dt s) := by
  refine answersSound_next ((h.after dt).modLink l ?_)
  split
  · exact .refl _
  · exact .of_eq rfl

theorem execLinkUp_sound (l : LinkIx) : AnswersSound (execLinkUp l s) := by
  unfold execLinkUp
  split
  · rename_i moment _
    have hup : Sound ((s.reach moment).modLink l fun k => { k with up := true, since := none }) [] :=
      (h.reach moment).modLink l (.of_eq rfl)
    exact answersSound_next (hup.setClaims _)
  · exact answersSound_next h

theorem execLinkDown_sound (l : LinkIx) : AnswersSound (execLinkDown l s) := by
  unfold execLinkDown
  split
  · rename_i moment _
    have hdown : Sound ((s.reach moment).modLink l Link.goDown) [] :=
      (h.reach moment).modLink l (.of_sublist (List.nil_sublist _))
    exact answersSound_next (hdown.linkLost l)
  · exact answersSound_next h

theorem execInterbyteTimeout_sound (l : LinkIx) : AnswersSound (execInterbyteTimeout l s) := by
  unfold execInterbyteTimeout
  split
  · exact answersSound_next ((h.reach _).modLink l (discardFrame_takes _))
  · exact answersSound_next h

theorem execTransmitEnd_sound (l : LinkIx) : AnswersSound (execTransmitEnd l s) := by
  unfold execTransmitEnd
  split
  · refine answersSound_next ((h.reach _).modLink l ?_)
    exact Takes.trans (.of_eq rfl) (kick_takes ..)
  · exact answersSound_next h

theorem execGpiFilterExpiry_sound (n : LineIx) : AnswersSound (execGpiFilterExpiry n s) := by
  unfold execGpiFilterExpiry
  split
  · exact answersSound_next ((h.reach _).acceptEdge n)
  · exact answersSound_next h

theorem execLossDeadline_sound : AnswersSound (execLossDeadline s) := by
  refine answersSound_next ?_
  split
  · exact h.synthetic
  · exact h

theorem execFreerunDeadline_sound : AnswersSound (execFreerunDeadline s) := by
  refine answersSound_next ?_
  split
  · exact h
  · exact h.synthetic

/-- A scheduled request handed over. -/
theorem Sound.scheduled {o : Offer} {plan : Except Reason Plan} {lead : Byte} (ho : s.offer = some o)
    (hplan : s.planOf o.body = some (plan, lead)) :
    AnswersSound (.next ((s.takeRequest o).serveScheduled o plan lead)) :=
  answersSound_next ((h.handed ho).serveScheduled hplan)

/-- Every command keeps recalls paired and room for every notice. -/
theorem exec_sound (i : Instr) : AnswersSound (exec i s) := by
  cases i with
  | powerOn strapHigh => exact answersSound_next (sound_powerOn ..)
  | presentChange l asserted dt => exact execPresentChange_sound h l asserted dt
  | linkUp l => exact execLinkUp_sound h l
  | linkDown l => exact execLinkDown_sound h l
  | frameArrival l bytes dt => exact answersSound_next (h.bytesIn l bytes dt)
  | byteArrival l byte dt => exact answersSound_next (h.byteIn l byte dt)
  | interbyteTimeout l => exact execInterbyteTimeout_sound h l
  | transmitEnd l => exact execTransmitEnd_sound h l
  | queryBank => exact answersSound_next (h.queryOf fun t o a ht => ht.serveQueryBank a)
  | queryClaims => exact answersSound_next (h.queryOf fun t o a ht => ht.serveQueryClaims a)
  | querySchedule => exact answersSound_next (h.queryOf fun t o a ht => ht.serveQuerySchedule)
  | queryLink => exact answersSound_next (h.queryOf fun t o a ht => ht.send _)
  | queryGpi => exact answersSound_next (h.queryOf fun t o a ht => ht.serveQueryGpi a)
  | queryConfig => exact answersSound_next (h.queryOf fun t o a ht => ht.serveQueryConfig a)
  | queryField => exact answersSound_next (h.queryOf fun t o a ht => ht.send _)
  | refPulse dt => exact answersSound_next (h.after dt).pulse
  | lossDeadline => exact execLossDeadline_sound h
  | freerunDeadline => exact execFreerunDeadline_sound h
  | sweepEntry => exact execSweepEntry_sound h
  | sweepLinkedSet => exact execSweepLinkedSet_sound h
  | fieldUpdate b => exact execFieldUpdate_sound h b
  | memoryReady data dt => exact answersSound_next (h.readyIn data dt)
  | memoryTimeout => exact answersSound_next h.expired
  | gpiPinChange n level dt => exact answersSound_next ((h.after dt).pinChange n level)
  | gpiFilterExpiry n => exact execGpiFilterExpiry_sound h n
  | malformedFrame =>
    simp only [exec, execMalformedFrame]
    split
    · rename_i ho
      exact answersSound_next ((h.handedOne ho).refuse List.mem_cons_self ..)
    · exact answersSound_next h
  | select =>
    simp only [exec, execSelect]
    split
    · rename_i ho
      exact h.scheduled ho rfl
    · exact answersSound_next h
  | cut =>
    simp only [exec, execCut]
    split
    · rename_i ho
      exact h.scheduled ho rfl
    · exact answersSound_next h
  | auto =>
    simp only [exec, execAuto]
    split
    · rename_i ho
      exact h.scheduled ho rfl
    · exact answersSound_next h
  | hold =>
    simp only [exec, execHold]
    split
    · rename_i ho
      exact h.scheduled ho rfl
    · exact answersSound_next h
  | lever =>
    simp only [exec, execLever]
    split
    · rename_i ho
      exact answersSound_next ((h.handedOne ho).serveLever ..)
    · exact answersSound_next h
  | keyCut =>
    simp only [exec, execKeyCut]
    split
    · rename_i ho
      exact h.scheduled ho rfl
    · exact answersSound_next h
  | keySetup =>
    simp only [exec, execKeySetup]
    split
    · rename_i ho
      exact h.scheduled ho rfl
    · exact answersSound_next h
  | transSetup =>
    simp only [exec, execTransSetup]
    split
    · rename_i ho
      exact h.scheduled ho rfl
    · exact answersSound_next h
  | layers =>
    simp only [exec, execLayers]
    split
    · rename_i ho
      exact h.scheduled ho rfl
    · exact answersSound_next h
  | claim =>
    simp only [exec, execClaim]
    split
    · rename_i ho
      exact answersSound_next ((h.handedOne ho).serveClaim ..)
    · exact answersSound_next h
  | release =>
    simp only [exec, execRelease]
    split
    · rename_i ho
      exact answersSound_next ((h.handedOne ho).serveRelease ..)
    · exact answersSound_next h
  | breakLock =>
    simp only [exec, execBreakLock]
    split
    · rename_i ho
      exact answersSound_next ((h.handedOne ho).serveBreak ..)
    · exact answersSound_next h
  | recallEffect =>
    simp only [exec, execRecall]
    split
    · rename_i ho
      exact answersSound_next (Sound.serveRecall (h.handed ho) ..)
    · exact answersSound_next h
  | store =>
    simp only [exec, execStore]
    split
    · rename_i ho
      exact answersSound_next (Sound.serveStore (h.handed ho) ..)
    · exact answersSound_next h
  | cancel =>
    simp only [exec, execCancel]
    split
    · rename_i ho
      exact answersSound_next ((h.handedOne ho).serveCancel ..)
    · exact answersSound_next h
  | config =>
    simp only [exec, execConfig]
    split
    · rename_i ho
      exact answersSound_next ((h.handedOne ho).serveConfig ..)
    · exact answersSound_next h
  | saveConfig =>
    simp only [exec, execSaveConfig]
    split
    · rename_i ho
      exact answersSound_next (Sound.serveSave (h.handed ho))
    · exact answersSound_next h
  | reset =>
    simp only [exec, execReset]
    split
    · rename_i ho
      exact answersSound_next (h.handedOne ho).serveReset
    · exact answersSound_next h
  | parameterRecordSent =>
    simp only [exec, execParameterRecordSent]
    split
    · exact answersSound_next h.same
    · exact answersSound_next h
  | tallyFrameSent =>
    simp only [exec, execTallyFrameSent]
    split
    · exact answersSound_next h.same
    · exact answersSound_next h

end

/-- Settles O60: each operation on the state takes a place for a frame only from a promise, from the need of the request
served, or where one is uncommitted, and moves a bank's recall whole; so each command does, and a step is a command run
on a state with the same links, list, engine and banks. -/
theorem everyNoticeFindsRoom : Obligations.EveryNoticeFindsRoom := by
  intro s t hroom hstep
  have hsound := (transmitRoom_iff s).mp hroom
  refine (transmitRoom_iff t).mpr ?_
  unfold step at hstep
  split at hstep
  · exact answersSound_next hsound t hstep
  · rename_i rest _
    have hrest : Sound { s with pending := rest } [] := hsound.same
    exact exec_sound hrest _ t hstep

end Sys2Proof.Schedule
end

section
/-! The schedule list in due order (R71, R72), and what a sweep does with its entries one by one (R75 to R82). -/

open Sys2Proof Sys2Proof.Machine Sys2Proof.TransitionController Sys2Proof.TransitionArithmetic

namespace Sys2Proof.Schedule

/-! ### Field numbers (R10) -/

theorem atLeast_self (n : FieldNo) : atLeast n n = true := by
  unfold atLeast
  rw [BitVec.sub_self]
  rfl

/-- Within half the counter's range from a base, field numbers stand in the order of their distances from it (R10). -/
theorem atLeast_iff {base n x : FieldNo} (hn : (n - base).toNat < 2147483648) (hx : (x - base).toNat < 2147483648) :
    atLeast n x = true ↔ (x - base).toNat ≤ (n - base).toNat := by
  have hrange : Config.halfRange = 2147483648 := rfl
  rw [atLeast, decide_eq_true_iff, hrange]
  bv_omega

/-! ### Insertion (R71, R72) -/

/-- An entry stands after those due at or before it and before the first that is not. -/
theorem insertEntry_between {e : Entry} {before after : List Entry} (hbefore : ∀ x ∈ before, atLeast e.due x.due = true)
    (hafter : ∀ x, after.head? = some x → atLeast e.due x.due = false) :
    insertEntry e (before ++ after) = before ++ e :: after := by
  induction before with
  | nil =>
    cases after with
    | nil => rfl
    | cons x rest => exact if_neg (by rw [hafter x rfl]; exact Bool.false_ne_true)
  | cons y before ih =>
    obtain ⟨hy, hbefore⟩ := List.forall_mem_cons.mp hbefore
    exact (if_pos hy).trans (congrArg (y :: ·) (ih hbefore))

/-- Entries with one due field stand as one run. -/
theorem insertEntries_between {es before after : List Entry} {d : FieldNo} (hes : ∀ e ∈ es, e.due = d)
    (hbefore : ∀ x ∈ before, atLeast d x.due = true) (hafter : ∀ x, after.head? = some x → atLeast d x.due = false) :
    insertEntries es (before ++ after) = before ++ es ++ after := by
  induction es generalizing before with
  | nil => rw [List.append_nil]; rfl
  | cons e es ih =>
    obtain ⟨he, hes⟩ := List.forall_mem_cons.mp hes
    have hone : insertEntry e (before ++ after) = (before ++ [e]) ++ after := by
      rw [insertEntry_between (he.symm ▸ hbefore) (he.symm ▸ hafter), List.append_assoc]
      rfl
    have hrun : ∀ x ∈ before ++ [e], atLeast d x.due = true := List.forall_mem_append.mpr
      ⟨hbefore, List.forall_mem_singleton.mpr (he ▸ atLeast_self e.due)⟩
    calc insertEntries (e :: es) (before ++ after)
        = insertEntries es ((before ++ [e]) ++ after) := congrArg (insertEntries es) hone
      _ = (before ++ [e]) ++ es ++ after := ih hes hrun
      _ = before ++ (e :: es) ++ after := by simp only [List.append_assoc, List.singleton_append]

/-- In due order, what stands behind an entry due later is due later too. -/
theorem later_of_head {after : List Entry} {base d : FieldNo} (hd : (d - base).toNat < 2147483648)
    (hrange : ∀ x ∈ after, (x.due - base).toNat < 2147483648)
    (hsorted : after.Pairwise fun x y => atLeast y.due x.due = true)
    (hhead : ∀ x, after.head? = some x → atLeast d x.due = false) : ∀ x ∈ after, atLeast d x.due = false := by
  cases after with
  | nil => exact fun x hx => by cases hx
  | cons y rest =>
    obtain ⟨hy, hrest⟩ := List.forall_mem_cons.mp hrange
    obtain ⟨hfirst, -⟩ := List.pairwise_cons.mp hsorted
    have hlater := hhead y rfl
    refine List.forall_mem_cons.mpr ⟨hlater, fun x hx => ?_⟩
    have hyx := (atLeast_iff (hrest x hx) hy).mp (hfirst x hx)
    rw [Bool.eq_false_iff, ne_eq, atLeast_iff hd hy] at hlater
    rw [Bool.eq_false_iff, ne_eq, atLeast_iff hd (hrest x hx)]
    omega

/-- Settles O25: the list splits where its first entry due later stands, and distances from the base order the rest. -/
theorem insertionKeepsDueOrder : Obligations.InsertionKeepsDueOrder := by
  intro es list d hes _
  have hbefore : ∀ x ∈ list.takeWhile (Entry.dueAt d), atLeast d x.due = true := fun x hx =>
    List.mem_takeWhile_imp (p := Entry.dueAt d) hx
  have hhead : ∀ x, (list.dropWhile (Entry.dueAt d)).head? = some x → atLeast d x.due = false := fun x hx => by
    have hstop := List.head?_dropWhile_not (Entry.dueAt d) list
    rw [hx] at hstop
    simpa [Entry.dueAt] using hstop
  have hsplit : list = list.takeWhile (Entry.dueAt d) ++ list.dropWhile (Entry.dueAt d) :=
    List.takeWhile_append_dropWhile.symm
  have hinsert : insertEntries es list = list.takeWhile (Entry.dueAt d) ++ es ++ list.dropWhile (Entry.dueAt d) := by
    conv_lhs => rw [hsplit]
    exact insertEntries_between hes hbefore hhead
  refine ⟨_, _, hsplit, hinsert, hbefore, fun base hrange hd hsorted => ?_⟩
  rw [hsplit] at hrange hsorted
  obtain ⟨hrangeBefore, hrangeAfter⟩ := List.forall_mem_append.mp hrange
  obtain ⟨hsortedBefore, hsortedAfter, hcross⟩ := List.pairwise_append.mp hsorted
  have hlater := later_of_head hd hrangeAfter hsortedAfter hhead
  refine ⟨hlater, hinsert ▸ ?_⟩
  have hrun : es.Pairwise fun x y => atLeast y.due x.due = true :=
    List.pairwise_of_forall_mem_list fun x hx y hy => by
      rw [hes x hx, hes y hy]
      exact atLeast_self d
  have hlead : ∀ x ∈ list.takeWhile (Entry.dueAt d), ∀ e ∈ es, atLeast e.due x.due = true := fun x hx e he =>
    (hes e he).symm ▸ hbefore x hx
  have hfollow : ∀ e ∈ es, ∀ y ∈ list.dropWhile (Entry.dueAt d), atLeast y.due e.due = true := fun e he y hy => by
    have hy' := hlater y hy
    rw [Bool.eq_false_iff, ne_eq, atLeast_iff hd (hrangeAfter y hy)] at hy'
    rw [hes e he, atLeast_iff (hrangeAfter y hy) hd]
    omega
  refine List.pairwise_append.mpr
    ⟨List.pairwise_append.mpr ⟨hsortedBefore, hrun, hlead⟩, hsortedAfter, fun x hx y hy => ?_⟩
  obtain hx | hx := List.mem_append.mp hx
  · exact hcross x hx y hy
  · exact hfollow x hx y hy

/-! ### Sweep-end (R84) -/

/-- Settles O29. -/
theorem sweepEndReachesEveryEnabledBank : Obligations.SweepEndReachesEveryEnabledBank := by
  intro u w hw
  constructor
  · intro hnone
    have hend : u.settleSweep = u.endSweep w.target := by
      simp only [State.settleSweep, hw, hnone, Option.isNone_none, if_true]
    rw [hend]
    exact ⟨rfl, bank_endSweep u w.target⟩
  · intro e hdue
    simp only [State.settleSweep, hw, hdue, Option.isNone_some, Bool.false_eq_true, if_false]

/-! ### Notices (R92, R133) -/

/-- A notice goes to the link of an origin, and to no other (R133). -/
theorem notify_noticeSent (s : State) (o : Origin) (reason : Reason) (b : BankIx) :
    s.NoticeSent (s.notify o reason (some b)) o reason b := by
  cases o with
  | link p tag =>
    refine ⟨fun l hl => pick_upd_other _ hl _, ?_⟩
    have hlink : (s.notify (.link p tag) reason (some b)).link p =
        (s.link p).place s.now (.notice tag reason (some b)) := pick_upd_same ..
    rw [hlink]
    exact Link.place_queues ..
  | line n => rfl

/-! ### One entry at a time (R76 to R82) -/

/-- The sweep takes the first entry that it has not reached. -/
theorem sweepEntry_eq {s : State} {w : Sweep} {e : Entry} (hsweep : s.sweep = some w)
    (hdue : nextDue w.target s.schedule = some e) (hlinked : e.linked = none) {u : State}
    (hdeal : s.dealEntry w e (swept s.schedule) (unswept s.schedule).tail = u) :
    exec .sweepEntry s = .next u.settleSweep := by
  simp only [exec, execSweepEntry, hsweep, hdue, hlinked, hdeal]

theorem schedule_of_nextDue {n : FieldNo} {list : List Entry} {e : Entry} (h : nextDue n list = some e) :
    list = swept list ++ e :: (unswept list).tail := by
  rw [← unswept_of_nextDue h, swept_append_unswept]

theorem dealt_of_mem_swept {list : List Entry} {e : Entry} (h : e ∈ swept list) : e.dealt = true :=
  List.mem_takeWhile_imp h

/-- The sweep has not dealt with the entry that it takes next (R76). -/
theorem not_dealt_of_nextDue {n : FieldNo} {list : List Entry} {e : Entry} (h : nextDue n list = some e) :
    e.dealt = false := by
  have hstop := List.head?_dropWhile_not Entry.dealt list
  have hhead : (list.dropWhile Entry.dealt).head? = some e := by
    have hunswept := unswept_of_nextDue h
    rw [unswept] at hunswept
    rw [hunswept]
    rfl
  rw [hhead] at hstop
  simpa using hstop

/-- The outcome of an entry judged go ahead within the budget (R77). -/
theorem outcome_applied {s : State} {w : Sweep} {e : Entry} {count : Nat} {note : Option Reason}
    (hage : stale w.target e.due = false) (hbank : pick w.deferred e.bank = false) (hfetch : e.fetching = false)
    (hjudge : s.judge e.bank e.action w.target = .goAhead count note) (hbudget : w.used + count ≤ 16) :
    s.outcomeOf w e = .applied count note := by
  have hplaces : ¬ Config.crosspointBudget < w.used + count := Nat.not_lt.mpr hbudget
  simp [State.outcomeOf, hage, hbank, hfetch, hjudge, hplaces]

/-- Settles O26. -/
theorem sweepAppliesAnEntry : Obligations.SweepAppliesAnEntry := by
  intro s w e count note hsweep hdue hlinked hage hbank hfetch hjudge hbudget
  have hdeal : s.dealEntry w e (swept s.schedule) (unswept s.schedule).tail = State.applyEntry
      { s with schedule := swept s.schedule ++ (unswept s.schedule).tail } w e count note := by
    simp only [State.dealEntry, outcome_applied hage hbank hfetch hjudge hbudget]
  refine ⟨_, swept s.schedule, (unswept s.schedule).tail, sweepEntry_eq hsweep hdue hlinked hdeal,
    schedule_of_nextDue hdue, fun x => dealt_of_mem_swept, not_dealt_of_nextDue hdue, ?_⟩
  cases note with
  | none => exact ⟨rfl, fun _ => rfl, fun reason hnote => by cases hnote⟩
  | some reason =>
    refine ⟨rfl, fun hnote => (by cases hnote), fun r hnote => ?_⟩
    cases hnote
    exact notify_noticeSent (State.perform { s with
      schedule := swept s.schedule ++ (unswept s.schedule).tail
      sweep := some { w with used := w.used + count } } e.bank e.action w.target) e.origin reason e.bank

/-- The outcome of a stale entry and of one judged refuse (R75, R77). -/
theorem outcome_refused {s : State} {w : Sweep} {e : Entry} {reason : Reason}
    (h : stale w.target e.due = true ∧ reason = .busy ∨
      stale w.target e.due = false ∧ pick w.deferred e.bank = false ∧ e.fetching = false ∧
        s.judge e.bank e.action w.target = .refuse reason) : s.outcomeOf w e = .refused reason := by
  obtain ⟨hage, rfl⟩ | ⟨hage, hbank, hfetch, hjudge⟩ := h
  · simp [State.outcomeOf, hage]
  · simp [State.outcomeOf, hage, hbank, hfetch, hjudge]

/-- Settles O27: a recall leaves by `Engine.dropRecall`, and any other action leaves the engine and the banks alone. -/
theorem sweepRefusesAnEntry : Obligations.SweepRefusesAnEntry := by
  intro s w e reason hsweep hdue hlinked hrefused
  have hdeal : s.dealEntry w e (swept s.schedule) (unswept s.schedule).tail = State.refuseEntry
      { s with schedule := swept s.schedule ++ (unswept s.schedule).tail } e reason := by
    simp only [State.dealEntry, outcome_refused hrefused]
  refine ⟨_, swept s.schedule, (unswept s.schedule).tail, sweepEntry_eq hsweep hdue hlinked hdeal,
    schedule_of_nextDue hdue, ?_⟩
  unfold State.refuseEntry
  split
  · rename_i r staged ha
    rw [if_pos (isRecallOf_of_action ha)]
    exact ⟨rfl, notify_noticeSent { s with
        schedule := swept s.schedule ++ (unswept s.schedule).tail
        engine := s.engine.dropRecall s.now s.items e.bank
        banks := upd s.banks e.bank fun k => { k with staging := none } } e.origin reason e.bank,
      dropRecall_jobs .., Engine.dropRecall_keepsAccess .., rfl⟩
  · rename_i ha
    have hother : ¬ e.isRecallOf e.bank = true := by
      rw [isRecallOf_eq, recallSeen_of_noRecall fun r staged he => ha r staged he]
      exact Bool.false_ne_true
    rw [if_neg hother]
    exact ⟨rfl, notify_noticeSent { s with schedule := swept s.schedule ++ (unswept s.schedule).tail } e.origin reason
      e.bank, rfl, rfl⟩

/-- The change count that an entry deferred keeps (R81). -/
def keptCount (s : State) (w : Sweep) (e : Entry) : Option Nat :=
  if pick w.deferred e.bank = true ∨ e.fetching = true then e.count
  else match s.judge e.bank e.action w.target with
    | .goAhead count _ => some count
    | .holdBack | .refuse _ => some 0

/-- The outcome of an entry that waits (R77, R78, R81). -/
theorem outcome_deferred {s : State} {w : Sweep} {e : Entry} (hage : stale w.target e.due = false)
    (h : pick w.deferred e.bank = true ∨ e.fetching = true ∨ s.judge e.bank e.action w.target = .holdBack ∨
      ∃ count note, s.judge e.bank e.action w.target = .goAhead count note ∧ 16 < w.used + count) :
    s.outcomeOf w e = .deferred (keptCount s w e) := by
  cases hbank : pick w.deferred e.bank with
  | true => simp [State.outcomeOf, keptCount, hage, hbank]
  | false =>
    cases hfetch : e.fetching with
    | true => simp [State.outcomeOf, keptCount, hage, hbank, hfetch]
    | false =>
      obtain hw | hw | hback | ⟨count, note, hjudge, hbudget⟩ := h
      · rw [hbank] at hw
        cases hw
      · rw [hfetch] at hw
        cases hw
      · simp [State.outcomeOf, keptCount, hage, hbank, hfetch, hback]
      · have hplaces : Config.crosspointBudget < w.used + count := hbudget
        simp [State.outcomeOf, keptCount, hage, hbank, hfetch, hjudge, hplaces]

/-- Settles O28. -/
theorem sweepDefersAnEntry : Obligations.SweepDefersAnEntry := by
  intro s w e hsweep hdue hlinked hage hwaits
  have hdeal : s.dealEntry w e (swept s.schedule) (unswept s.schedule).tail = State.deferBank
      { s with schedule := swept s.schedule ++ { e with count := keptCount s w e, dealt := true } ::
        (unswept s.schedule).tail } w e.bank := by
    simp only [State.dealEntry, outcome_deferred hage hwaits]
  exact ⟨_, swept s.schedule, (unswept s.schedule).tail, _, sweepEntry_eq hsweep hdue hlinked hdeal,
    schedule_of_nextDue hdue, rfl, rfl⟩

end Sys2Proof.Schedule
end

section
/-! Linked sets in the sweep (R83): deferred as a whole, refused as a whole, or landed together. -/

open Sys2Proof Sys2Proof.Machine Sys2Proof.TransitionController Sys2Proof.TransitionArithmetic

namespace Sys2Proof.Schedule

/-- The sweep takes the linked set whose first member it has not reached. -/
theorem sweepLinkedSet_eq {s : State} {w : Sweep} {e : Entry} {set : Nat} (hsweep : s.sweep = some w)
    (hdue : nextDue w.target s.schedule = some e) (hlinked : e.linked = some set) {u : State}
    (hdeal : s.dealSet w (setMembers set (unswept s.schedule)) (swept s.schedule)
      (afterSet set (unswept s.schedule)) = u) :
    exec .sweepLinkedSet s = .next u.settleSweep := by
  simp only [exec, execSweepLinkedSet, hsweep, hdue, hlinked, hdeal]

theorem schedule_of_set (set : Nat) (list : List Entry) :
    list = swept list ++ setMembers set (unswept list) ++ afterSet set (unswept list) := by
  rw [List.append_assoc, setMembers_append_afterSet, swept_append_unswept]

/-! ### A set that waits (R78, R81) -/

theorem memberWaits_iff (s : State) (w : Sweep) (m : Entry) :
    s.memberWaits w m = true ↔ pick w.deferred m.bank = true ∨ s.judge m.bank m.action w.target = .holdBack := by
  simp [State.memberWaits]

theorem no_stale {w : Sweep} {members : List Entry} (h : ∀ m ∈ members, stale w.target m.due = false) :
    ¬ (members.any fun m => stale w.target m.due) = true := by
  simpa using h

theorem any_bank_iff (members : List Entry) (b : BankIx) :
    (members.any fun m => m.bank == b) = true ↔ ∃ m ∈ members, m.bank = b := by
  simp

/-- Settles O30. -/
theorem linkedSetWaitsAsAWhole : Obligations.LinkedSetWaitsAsAWhole := by
  intro s w e set hsweep hdue hlinked hage hwaits
  generalize hmembers : setMembers set (unswept s.schedule) = members at hage hwaits
  have hany : members.any (s.memberWaits w) = true := by
    obtain ⟨m, hm, hwait⟩ := hwaits
    exact List.any_eq_true.mpr ⟨m, hm, (memberWaits_iff s w m).mpr hwait⟩
  have hdeal := sweepLinkedSet_eq hsweep hdue hlinked rfl
  rw [hmembers, State.dealSet, if_neg (no_stale hage), if_pos hany] at hdeal
  refine ⟨_, swept s.schedule, afterSet set (unswept s.schedule), members.map (deferMember w), hdeal,
    hmembers ▸ schedule_of_set set s.schedule, rfl, ?_⟩
  refine ⟨rfl, ⟨_, rfl, fun b => ?_⟩, fun b => ?_⟩
  · rw [pick_tab, Bool.or_eq_true, any_bank_iff]
  · simp only [State.bank, pick_tab, any_bank_iff]

/-! ### A set dealt with (R79, R80) -/

/-- What a member dealt with makes of its bank: an action performed, and otherwise the bank as it is. -/
def landBank (s : State) (w : Sweep) (m : Entry × Judgement) (k : Bank) : Bank :=
  match m.2 with
  | .goAhead _ _ => k.perform m.1.action w.target (s.dwellFields m.1.bank) s.prepareFields
  | _ => k

/-- The notices of a member dealt with for link `l`. -/
def landNotices (s : State) (l : LinkIx) (m : Entry × Judgement) : List TxFrame :=
  match m.2 with
  | .refuse reason => s.noticesTo l reason [m.1]
  | .goAhead _ (some reason) => s.noticesTo l reason [m.1]
  | _ => []

theorem noticesTo_eq_flatMap (s : State) (l : LinkIx) (reason : Reason) (es : List Entry) :
    s.noticesTo l reason es = es.flatMap fun e => s.noticesTo l reason [e] := by
  induction es with
  | nil => rfl
  | cons e es ih =>
    rw [List.flatMap_cons, ← ih]
    exact List.filterMap_append (l := [e]) ..

theorem noticesTo_line {s : State} {e : Entry} {n : LineIx} (h : e.origin = .line n) (l : LinkIx) (reason : Reason) :
    s.noticesTo l reason [e] = [] := by
  simp only [State.noticesTo, List.filterMap_cons, List.filterMap_nil, h]

theorem noticesTo_link {s : State} {e : Entry} {p : LinkIx} {tag : Byte} (h : e.origin = .link p tag) (l : LinkIx)
    (reason : Reason) : s.noticesTo l reason [e] =
      if p = l ∧ (s.link l).up = true then [.notice tag reason (some e.bank)] else [] := by
  simp only [State.noticesTo, List.filterMap_cons, List.filterMap_nil, h]
  split_ifs <;> rfl

/-- A notice queues on the link of its origin, if it is UP (R92, R133). -/
theorem notify_queuesAll (s : State) (e : Entry) (reason : Reason) (l : LinkIx) :
    (s.link l).QueuesAll s.now (s.noticesTo l reason [e]) ((s.notify e.origin reason (some e.bank)).link l) := by
  cases ho : e.origin with
  | line n =>
    rw [noticesTo_line ho]
    rfl
  | link p tag =>
    rw [noticesTo_link ho]
    by_cases hl : l = p
    · subst hl
      have hlink : (s.notify (.link l tag) reason (some e.bank)).link l =
          (s.link l).place s.now (.notice tag reason (some e.bank)) := pick_upd_same ..
      rw [hlink]
      split
      · exact Link.foldl_place_queues s.now [.notice tag reason (some e.bank)] (s.link l)
      · rename_i hdown
        exact Link.place_down _ _ _ (by simpa using hdown)
    · have hlink : (s.notify (.link p tag) reason (some e.bank)).link l = s.link l := pick_upd_other _ hl _
      rw [hlink, if_neg fun h => hl h.1.symm]
      rfl

theorem notify_up (s : State) (o : Origin) (reason : Reason) (b : Option BankIx) (l : LinkIx) :
    ((s.notify o reason b).link l).up = (s.link l).up := by
  cases o with
  | line n => rfl
  | link p tag =>
    simp only [State.notify, State.link, pick_upd]
    split
    · rename_i hl
      rw [hl, Link.place_up]
    · rfl

/-- A take dealt with: its bank, and what it has to tell its origin. -/
structure Lands (s t : State) (w : Sweep) (m : Entry × Judgement) : Prop where
  frame : t = { s with banks := t.banks, links := t.links }
  bank : ∀ c, t.bank c = if c = m.1.bank then landBank s w m (s.bank c) else s.bank c
  told : ∀ l, (s.link l).QueuesAll s.now (landNotices s l m) (t.link l)
  up : ∀ l, (t.link l).up = (s.link l).up

theorem notify_lands (s : State) (w : Sweep) (e : Entry) (reason : Reason) :
    Lands s (s.notify e.origin reason (some e.bank)) w (e, .refuse reason) where
  frame := rfl
  bank c := by
    split
    · rfl
    · rfl
  told l := notify_queuesAll s e reason l
  up l := notify_up ..

theorem perform_bank (s : State) (b : BankIx) (a : Action) (n : FieldNo) (c : BankIx) :
    (s.perform b a n).bank c =
      if c = b then (s.bank c).perform a n (s.dwellFields b) s.prepareFields else s.bank c := by
  simp only [State.perform, State.bank, pick_upd]
  split
  · rename_i hc
    rw [hc]
  · rfl

/-- A take counts no change, so the sweep's own state stays (R81). -/
theorem applyEntry_take {s : State} {w : Sweep} (hsweep : s.sweep = some w) (e : Entry) (note : Option Reason) :
    s.applyEntry w e 0 note = match note with
      | some reason => (s.perform e.bank e.action w.target).notify e.origin reason (some e.bank)
      | none => s.perform e.bank e.action w.target := by
  have hsame : { s with sweep := some { w with used := w.used + 0 } } = s := by
    rw [Nat.add_zero, ← hsweep]
  cases note with
  | none => exact congrArg (fun t : State => t.perform e.bank e.action w.target) hsame
  | some reason =>
    exact congrArg (fun t : State => (t.perform e.bank e.action w.target).notify e.origin reason (some e.bank)) hsame

/-- A member judged refuse or go ahead is dealt with on its own (R83). -/
theorem dealMember_lands {s : State} {w : Sweep} {m : Entry × Judgement} (hsweep : s.sweep = some w)
    (htake : m.1.action.isTake = true) (hjudged : m.2 ≠ .holdBack)
    (hcount : ∀ count note, m.2 = .goAhead count note → count = 0) :
    Lands s (s.dealMember w m.1 m.2) w m := by
  obtain ⟨e, judged⟩ := m
  cases judged with
  | refuse reason =>
    have hrefuse : s.dealMember w e (.refuse reason) = s.notify e.origin reason (some e.bank) :=
      refuseEntry_take htake s reason
    rw [hrefuse]
    exact notify_lands s w e reason
  | holdBack => exact absurd rfl hjudged
  | goAhead count note =>
    have hzero : count = 0 := hcount count note rfl
    subst hzero
    have happly : s.dealMember w e (.goAhead 0 note) = _ := applyEntry_take hsweep e note
    rw [happly]
    cases note with
    | none => exact ⟨rfl, perform_bank s e.bank e.action w.target, fun _ => rfl, fun _ => rfl⟩
    | some reason =>
      exact ⟨rfl, perform_bank s e.bank e.action w.target,
        notify_queuesAll (s.perform e.bank e.action w.target) e reason,
        notify_up (s.perform e.bank e.action w.target) e.origin reason (some e.bank)⟩

/-- What a member asks of its bank and of its origin does not depend on the members dealt with before it. -/
theorem Lands.landBank_eq {s t : State} {w : Sweep} {m : Entry × Judgement} (h : Lands s t w m)
    (x : Entry × Judgement) : landBank t w x = landBank s w x := by
  rw [h.frame]
  rfl

theorem Lands.landNotices_eq {s t : State} {w : Sweep} {m : Entry × Judgement} (h : Lands s t w m) (l : LinkIx)
    (x : Entry × Judgement) : landNotices t l x = landNotices s l x := by
  simp only [landNotices, State.noticesTo, h.up]

/-- What becomes of a set once no member waits: nothing but banks and links changes, and every notice is queued. -/
theorem dealMembers_land {w : Sweep} {ms : List (Entry × Judgement)} (htakes : ∀ m ∈ ms, m.1.action.isTake = true)
    (hjudged : ∀ m ∈ ms, m.2 ≠ .holdBack) (hcount : ∀ m ∈ ms, ∀ count note, m.2 = .goAhead count note → count = 0)
    {s : State} (hsweep : s.sweep = some w) :
    (ms.foldl (fun t m => t.dealMember w m.1 m.2) s =
      { s with banks := (ms.foldl (fun t m => t.dealMember w m.1 m.2) s).banks
               links := (ms.foldl (fun t m => t.dealMember w m.1 m.2) s).links }) ∧
      (∀ l, (s.link l).QueuesAll s.now (ms.flatMap (landNotices s l))
        ((ms.foldl (fun t m => t.dealMember w m.1 m.2) s).link l)) ∧
      (∀ c, (∀ m ∈ ms, m.1.bank = c → ∀ k, landBank s w m k = k) →
        (ms.foldl (fun t m => t.dealMember w m.1 m.2) s).bank c = s.bank c) ∧
      ((ms.map fun m => m.1.bank).Nodup → ∀ m ∈ ms,
        (ms.foldl (fun t m => t.dealMember w m.1 m.2) s).bank m.1.bank = landBank s w m (s.bank m.1.bank)) := by
  induction ms generalizing s with
  | nil => exact ⟨rfl, fun _ => rfl, fun _ _ => rfl, fun _ m hm => by cases hm⟩
  | cons m ms ih =>
    obtain ⟨htake, htakes⟩ := List.forall_mem_cons.mp htakes
    obtain ⟨hm, hjudged⟩ := List.forall_mem_cons.mp hjudged
    obtain ⟨hzero, hcount⟩ := List.forall_mem_cons.mp hcount
    have hland := dealMember_lands hsweep htake hm hzero
    rw [List.foldl_cons]
    generalize s.dealMember w m.1 m.2 = t at hland
    have hsweep' : t.sweep = some w := by
      rw [hland.frame]
      exact hsweep
    have hnow : t.now = s.now := by rw [hland.frame]
    obtain ⟨hframe, htold, hkept, hbanks⟩ := ih htakes hjudged hcount hsweep'
    generalize ms.foldl (fun t m => t.dealMember w m.1 m.2) t = u at hframe htold hkept hbanks
    refine ⟨?_, fun l => ?_, fun c hc => ?_, fun hnodup x hx => ?_⟩
    · rw [hframe, hland.frame]
    · have hrest := htold l
      rw [hnow, List.flatMap_congr fun x _ => hland.landNotices_eq l x] at hrest
      exact (hland.told l).append hrest
    · obtain ⟨hfirst, hrest⟩ := List.forall_mem_cons.mp hc
      rw [hkept c fun x hx hxc k => by rw [hland.landBank_eq, hrest x hx hxc], hland.bank]
      split
      · rename_i hmc
        exact hfirst hmc.symm _
      · rfl
    · obtain ⟨hother, hnodup⟩ := List.nodup_cons.mp hnodup
      have hrest : ∀ y ∈ ms, y.1.bank ≠ m.1.bank := fun y hy hym => hother (List.mem_map.mpr ⟨y, hy, hym⟩)
      obtain rfl | hx := List.mem_cons.mp hx
      · rw [hkept _ fun y hy hyx => absurd hyx (hrest y hy), hland.bank, if_pos rfl]
      · rw [hbanks hnodup x hx, hland.landBank_eq, hland.bank, if_neg (hrest x hx)]

/-! ### The two ways a set leaves the list (R75, R83) -/

theorem mem_schedule_of_setMembers {set : Nat} {list : List Entry} {m : Entry}
    (h : m ∈ setMembers set (unswept list)) : m ∈ list := by
  rw [schedule_of_set set list]
  exact List.mem_append_left _ (List.mem_append_right _ h)

/-- A stale member makes the whole set refused (R75, R83). -/
theorem dealSet_stale {s : State} {w : Sweep} {members left rest : List Entry}
    (hage : ∃ m ∈ members, stale w.target m.due = true) :
    s.dealSet w members left rest = (members.map fun m => (m, Judgement.refuse .busy)).foldl
      (fun t m => t.dealMember w m.1 m.2) { s with schedule := left ++ rest } := by
  rw [State.dealSet, if_pos (List.any_eq_true.mpr hage), List.foldl_map]
  rfl

/-- A set of which no member waits is judged as a whole, then dealt with (R83). -/
theorem dealSet_lands {s : State} {w : Sweep} {members left rest : List Entry}
    (hready : ∀ m ∈ members, stale w.target m.due = false ∧ pick w.deferred m.bank = false ∧
      s.judge m.bank m.action w.target ≠ .holdBack) :
    s.dealSet w members left rest = (members.map fun m => (m, s.judge m.bank m.action w.target)).foldl
      (fun t m => t.dealMember w m.1 m.2) { s with schedule := left ++ rest } := by
  have hnone : ¬ members.any (s.memberWaits w) = true := fun hany => by
    obtain ⟨m, hm, hwaits⟩ := List.any_eq_true.mp hany
    obtain ⟨-, hbank, hback⟩ := hready m hm
    obtain hw | hw := (memberWaits_iff s w m).mp hwaits
    · rw [hbank] at hw
      cases hw
    · exact hback hw
  rw [State.dealSet, if_neg (no_stale fun m hm => (hready m hm).1), if_neg hnone]

/-- Settles O31: both ways are `dealMembers_land`, of members all judged refuse, and of members as they are judged. -/
theorem linkedSetLandsTogether : Obligations.LinkedSetLandsTogether := by
  constructor
  · intro s w e set htakes hsweep hdue hlinked hage
    have hmember : ∀ m ∈ setMembers set (unswept s.schedule), m.action.isTake = true := fun m hm =>
      htakes m (mem_schedule_of_setMembers hm) (linked_of_mem_setMembers hm)
    obtain ⟨hframe, htold, hkept, -⟩ := dealMembers_land (w := w)
      (ms := (setMembers set (unswept s.schedule)).map fun m => (m, Judgement.refuse .busy))
      (s := { s with schedule := swept s.schedule ++ afterSet set (unswept s.schedule) })
      (List.forall_mem_map.mpr hmember) (List.forall_mem_map.mpr fun m _ => by simp)
      (List.forall_mem_map.mpr fun m _ count note h => by cases h) hsweep
    have hdeal := sweepLinkedSet_eq hsweep hdue hlinked (dealSet_stale hage)
    refine ⟨_, _, _, hdeal, schedule_of_set set s.schedule, ?_, fun l => ?_⟩
    · have hbanks := table_ext fun c => hkept c fun x hx _ k => by
        obtain ⟨m, -, rfl⟩ := List.mem_map.mp hx
        rfl
      rw [hframe]
      simp only [hbanks]
    · have hl := htold l
      rw [List.flatMap_map] at hl
      rw [noticesTo_eq_flatMap]
      exact hl
  · intro s w e set htakes hsweep hdue hlinked hnodup hready
    have hmember : ∀ m ∈ setMembers set (unswept s.schedule), m.action.isTake = true := fun m hm =>
      htakes m (mem_schedule_of_setMembers hm) (linked_of_mem_setMembers hm)
    obtain ⟨hframe, htold, hkept, hbanks⟩ := dealMembers_land (w := w)
      (ms := (setMembers set (unswept s.schedule)).map fun m => (m, s.judge m.bank m.action w.target))
      (s := { s with schedule := swept s.schedule ++ afterSet set (unswept s.schedule) })
      (List.forall_mem_map.mpr hmember) (List.forall_mem_map.mpr fun m hm => (hready m hm).2.2)
      (List.forall_mem_map.mpr fun m hm count note h => judge_take_count (hmember m hm) h) hsweep
    have hdeal := sweepLinkedSet_eq hsweep hdue hlinked (dealSet_lands hready)
    refine ⟨_, _, _, hdeal, schedule_of_set set s.schedule, hframe, fun m hm => ?_, fun b hb => ?_, fun l => ?_⟩
    · rw [List.map_map] at hbanks
      exact hbanks hnodup _ (List.mem_map_of_mem hm)
    · refine hkept b fun x hx hxb => ?_
      obtain ⟨m, hm, rfl⟩ := List.mem_map.mp hx
      exact absurd hxb (hb m hm)
    · have hl := htold l
      rwa [List.flatMap_map] at hl

end Sys2Proof.Schedule
end

section
/-! The 64 µs of an access expire (R87, R159, R161, R162, R168, R170, R183). -/

open Sys2Proof Sys2Proof.Machine Sys2Proof.TransitionController Sys2Proof.TransitionArithmetic

namespace Sys2Proof.Schedule

/-- The failure of a job leaves the Memory Engine as it is, and takes no time. -/
theorem jobFailed_engine (s : State) (reason : Reason) :
    (s.jobFailed reason).engine = s.engine ∧ (s.jobFailed reason).now = s.now := by
  unfold State.jobFailed
  split
  · exact ⟨rfl, rfl⟩
  · exact ⟨rfl, rfl⟩
  · exact ⟨rfl, rfl⟩
  · exact ⟨rfl, rfl⟩
  · exact ⟨rfl, rfl⟩

/-- The next job becomes active at once where the port is idle (R161). -/
theorem finishJob_firstAccess {s : State} (hport : s.engine.port = none) :
    s.finishJob.engine.FirstAccess s.finishJob.now s.finishJob.items :=
  activate_firstAccess (g := { s.engine with jobs := s.engine.jobs.tail, stage := none }) rfl hport s.now s.items

/-- The state at the moment of the expiry, the failed access off the port. -/
def atExpiry (s : State) (access : Access) : State :=
  { s with now := access.raised + 64, engine := { s.engine with port := none } }

/-- The access of an abandoned job ends without a result (R162). -/
theorem expired_abandoned {s : State} {access : Access} (hport : s.engine.port = some access)
    (hnow : s.now ≤ access.raised + 64) (hstage : s.engine.stage = none) :
    s.expired = State.drained { s with now := access.raised + 64 } := by
  have hreach : s.reach (access.raised + Config.memoryTime) = { s with now := access.raised + 64 } := reach_eq hnow
  simp only [State.expired, hport, hstage, hreach]

/-- The active job fails with MEMFAULT, and leaves the queue (R159, R161). -/
theorem expired_active {s : State} {access : Access} {stage : Stage} (hport : s.engine.port = some access)
    (hnow : s.now ≤ access.raised + 64) (hstage : s.engine.stage = some stage) :
    s.expired = ((atExpiry s access).jobFailed .memFault).finishJob := by
  have hreach : s.reach (access.raised + Config.memoryTime) = { s with now := access.raised + 64 } := reach_eq hnow
  simp only [State.expired, hport, hstage, hreach]
  rfl

/-- Settles O50: by the stage, and for an active job by its kind. -/
theorem timeoutEndsTheJobWithMemfault : Obligations.TimeoutEndsTheJobWithMemfault := by
  intro s access hport hnow
  refine ⟨s.expired, rfl, ?_⟩
  cases hstage : s.engine.stage with
  | none =>
    rw [expired_abandoned hport hnow hstage]
    refine ⟨rfl, ?_, fun _ => ⟨rfl, activate_jobs ..⟩, fun stage h => by cases h⟩
    exact activate_firstAccess (g := { s.engine with port := none }) hstage rfl ..
  | some stage =>
    rw [expired_active hport hnow hstage]
    obtain ⟨hengine, hmoment⟩ := jobFailed_engine (atExpiry s access) .memFault
    refine ⟨hmoment, finishJob_firstAccess (by rw [hengine]; rfl), (by rintro ⟨⟩), fun _ _ => ?_⟩
    refine ⟨?_, fun b r o jobs hjobs => ?_, fun l tag b r snapshot jobs hjobs => ?_, fun l tag jobs hjobs => ?_,
      fun jobs hjobs => ?_⟩
    · rw [State.finishJob, activate_jobs, hengine]
      rfl
    · have hfail : (atExpiry s access).jobFailed .memFault = (atExpiry s access).recallFailed b o .memFault := by
        simp only [State.jobFailed, atExpiry, hjobs]
      rw [hfail]
      exact ⟨rfl, notify_noticeSent (atExpiry s access) o .memFault b⟩
    · have hfail : (atExpiry s access).jobFailed .memFault =
          (atExpiry s access).notify (.link l tag) .memFault (some b) := by
        simp only [State.jobFailed, atExpiry, hjobs]
        rfl
      rw [hfail]
      exact ⟨rfl, notify_noticeSent (atExpiry s access) (.link l tag) .memFault b⟩
    · have hfail : (atExpiry s access).jobFailed .memFault =
          (atExpiry s access).send l (.notice tag .memFault none) := by
        simp only [State.jobFailed, atExpiry, hjobs]
      rw [hfail]
      refine ⟨rfl, fun m hm => State.link_send_other (atExpiry s access) hm _, ?_⟩
      have hlink := State.link_send_same (atExpiry s access) l (.notice tag .memFault none)
      have hqueues := Link.place_queues (access.raised + 64) (.notice tag .memFault none) (s.link l)
      exact hlink ▸ hqueues
    · have hfail : (atExpiry s access).jobFailed .memFault = (atExpiry s access).startUp none := by
        simp only [State.jobFailed, atExpiry, hjobs]
      rw [hfail]
      rfl

end Sys2Proof.Schedule
end

section
/-! The queries of the list, a link, the GPI lines, an item and the field (R91, R136, R158, R178). -/

open Sys2Proof Sys2Proof.Machine Sys2Proof.TransitionController Sys2Proof.TransitionArithmetic

namespace Sys2Proof.Schedule

/-- A query served: its frames go to the link that asks, and nothing else changes but lines. -/
structure Answered (s : State) (o : Offer) (t : State) (answer : List TxFrame) : Prop where
  frame : t = { s with pointer := o.link, links := t.links, lines := t.lines }
  others : ∀ l, l ≠ o.link → t.link l = s.link l
  told : ((s.takeRequest o).link o.link).QueuesAll s.now answer (t.link o.link)

/-- Frames placed one after another answer a query. -/
theorem answered_place (s : State) (o : Offer) (lines : Vector GpiLine 8) (answer : List TxFrame) :
    Answered s o (State.modLink { s.takeRequest o with lines := lines } o.link fun k =>
      answer.foldl (fun k f => Link.place s.now f k) k) answer where
  frame := rfl
  others l hl := (State.link_modLink_other _ hl _).trans (State.link_takeRequest_other s hl)
  told := by
    rw [State.link_modLink_same]
    exact Link.foldl_place_queues ..

/-- A query that the Arbiter hands over, met by the command of its subject (R136). -/
theorem queryOf_eq {s : State} {l : LinkIx} {q : QueueKind} {tag subject argument : Byte}
    (ho : s.offer = some ⟨l, q, tag, .query subject argument⟩) (serve : State → Offer → Byte → State) :
    s.queryOf subject serve =
      serve (s.takeRequest ⟨l, q, tag, .query subject argument⟩) ⟨l, q, tag, .query subject argument⟩ argument := by
  simp only [State.queryOf, ho, if_true]

/-- A query that passes has one of the seven subjects (R136). -/
theorem subject_of_verdict {s : State} {l : LinkIx} {q : QueueKind} {tag subject argument : Byte}
    (h : s.verdict ⟨l, q, tag, .query subject argument⟩ = none) (hthree : 3 ≤ subject.toNat) :
    subject = 3 ∨ subject = 4 ∨ subject = 5 ∨ subject = 6 ∨ subject = 7 := by
  have hseven : subject.toNat ≤ 7 := by
    by_contra hmore
    obtain ⟨k, hk⟩ := Nat.exists_eq_add_of_le' (Nat.lt_of_not_le hmore)
    have hbad : s.verdict ⟨l, q, tag, .query subject argument⟩ = some (.badValue, none) := by
      simp only [State.verdict, hk]
    rw [hbad] at h
    cases h
  bv_omega

/-! ### SCHEDULE (R91) -/

theorem chunks_flatten (es : List Entry) (n : Nat) :
    ((List.range n).map fun i => (es.drop (12 * i)).take 12).flatten = es.take (12 * n) := by
  induction n with
  | zero => rfl
  | succ n ih =>
    rw [List.range_succ, List.map_append, List.flatten_append, ih, Nat.mul_succ, List.take_add]
    simp

/-- The reports hold the entries whole, in their order. -/
theorem reportChunks_flatten (es : List Entry) : (reportChunks es).flatten = es := by
  rw [reportChunks, chunks_flatten]
  exact List.take_of_length_le (by omega)

theorem reportChunks_short {es r : List Entry} (h : r ∈ reportChunks es) : r.length ≤ 12 := by
  obtain ⟨i, -, rfl⟩ := List.mem_map.mp h
  exact List.length_take_le ..

theorem length_reportChunks (es : List Entry) : (reportChunks es).length = max 1 ((es.length + 11) / 12) := by
  simp [reportChunks]

theorem querySchedule_answered {s : State} {l : LinkIx} {q : QueueKind} {tag argument : Byte}
    (ho : s.offer = some ⟨l, q, tag, .query 3 argument⟩) :
    ∃ t, exec .querySchedule s = .next t ∧ t.lines = s.lines ∧
      Answered s ⟨l, q, tag, .query 3 argument⟩ t (s.scheduleReports ⟨l, q, tag, .query 3 argument⟩) :=
  ⟨_, congrArg Host.Outcome.next (queryOf_eq ho _), rfl, answered_place s ⟨l, q, tag, .query 3 argument⟩ s.lines _⟩

/-! ### LINK, GPI, CONFIG and FIELD (R136, R158, R178) -/

theorem queryLink_answered {s : State} {l : LinkIx} {q : QueueKind} {tag argument : Byte}
    (ho : s.offer = some ⟨l, q, tag, .query 4 argument⟩) :
    ∃ t k, k = (s.takeRequest ⟨l, q, tag, .query 4 argument⟩).link l ∧ exec .queryLink s = .next t ∧
      t.lines = s.lines ∧ Answered s ⟨l, q, tag, .query 4 argument⟩ t
        [.linkCounts tag l k.up k.holdOff k.takeQ.length k.setupQ.length k.tx.length (s.promised l) k.frameErrors
          k.overflow] :=
  ⟨_, _, rfl, congrArg Host.Outcome.next (queryOf_eq ho _), rfl,
    answered_place s ⟨l, q, tag, .query 4 argument⟩ s.lines [_]⟩

theorem queryGpi_answered {s : State} {l : LinkIx} {q : QueueKind} {tag argument : Byte}
    (ho : s.offer = some ⟨l, q, tag, .query 5 argument⟩) (hargument : ¬ 1 < argument.toNat) :
    ∃ t, exec .queryGpi s = .next t ∧
      t.lines = (if argument = 1 then s.clearGpiFlags else s).lines ∧
      Answered s ⟨l, q, tag, .query 5 argument⟩ t [.gpiState tag ((indices 8).map s.gpiReport)] := by
  have hserve := queryOf_eq ho fun t o a => t.serveQueryGpi o a
  simp only [State.serveQueryGpi, if_neg hargument] at hserve
  refine ⟨_, congrArg Host.Outcome.next hserve, ?_⟩
  split
  · exact ⟨rfl, answered_place s ⟨l, q, tag, .query 5 argument⟩ s.clearGpiFlags.lines [_]⟩
  · exact ⟨rfl, answered_place s ⟨l, q, tag, .query 5 argument⟩ s.lines [_]⟩

theorem queryConfig_answered {s : State} {l : LinkIx} {q : QueueKind} {tag argument : Byte}
    (ho : s.offer = some ⟨l, q, tag, .query 6 argument⟩) (hassigned : assigned argument.toNat = true) :
    ∃ t, exec .queryConfig s = .next t ∧ t.lines = s.lines ∧
      Answered s ⟨l, q, tag, .query 6 argument⟩ t [.configValue tag argument.toNat (s.item argument.toNat)] := by
  have hserve := queryOf_eq ho fun t o a => t.serveQueryConfig o a
  simp only [State.serveQueryConfig, if_pos hassigned] at hserve
  exact ⟨_, congrArg Host.Outcome.next hserve, rfl,
    answered_place s ⟨l, q, tag, .query 6 argument⟩ s.lines [_]⟩

theorem queryField_answered {s : State} {l : LinkIx} {q : QueueKind} {tag argument : Byte}
    (ho : s.offer = some ⟨l, q, tag, .query 7 argument⟩) :
    ∃ t, exec .queryField s = .next t ∧ t.lines = s.lines ∧ Answered s ⟨l, q, tag, .query 7 argument⟩ t
      [.fieldStatus tag s.ref.counter s.ref.locked s.cfgDefault s.running s.ref.period s.ref.spurious] :=
  ⟨_, congrArg Host.Outcome.next (queryOf_eq ho _), rfl,
    answered_place s ⟨l, q, tag, .query 7 argument⟩ s.lines [_]⟩

/-- Lines as they were, where no QUERY GPI clears them. -/
theorem line_of_lines {s t : State} (h : t.lines = s.lines) (n : LineIx) : t.line n = s.line n := by
  rw [State.line, State.line, h]

/-- The flags that a QUERY GPI clears (R178). -/
theorem line_of_clear {s t : State} {argument : Byte}
    (h : t.lines = (if argument = 1 then s.clearGpiFlags else s).lines) (n : LineIx) :
    t.line n = if argument = 1 then { s.line n with edge := false, dropped := false } else s.line n := by
  rw [State.line, h]
  split
  · exact pick_tab ..
  · rfl

/-- Settles O11: by the subject. -/
theorem queriesAnswerTheStateAsItStands : Obligations.QueriesAnswerTheStateAsItStands := by
  rintro s ⟨l, q, tag, body⟩ subject argument ho rfl hverdict hthree
  obtain rfl | rfl | rfl | rfl | rfl := subject_of_verdict hverdict hthree
  · obtain ⟨t, hexec, hlines, hframe, hothers, htold⟩ := querySchedule_answered ho
    refine ⟨t, _, hexec, hframe, hothers, htold, fun n => ?_, fun _ => ?_, by simp, by simp, by simp, by simp⟩
    · rw [line_of_lines hlines]
      rfl
    · exact ⟨_, reportChunks_flatten _, fun r => reportChunks_short,
        by rw [reportChunks_flatten, length_reportChunks], rfl⟩
  · obtain ⟨t, k, hk, hexec, hlines, hframe, hothers, htold⟩ := queryLink_answered ho
    refine ⟨t, _, hexec, hframe, hothers, htold, fun n => ?_, by simp, fun _ => ⟨k, hk, rfl⟩, by simp, by simp, by simp⟩
    rw [line_of_lines hlines]
    rfl
  · have hargument : ¬ 1 < argument.toNat := by
      simpa [State.verdict, refuseIf] using hverdict
    obtain ⟨t, hexec, hlines, hframe, hothers, htold⟩ := queryGpi_answered ho hargument
    refine ⟨t, _, hexec, hframe, hothers, htold, fun n => ?_, by simp, by simp, fun _ => rfl, by simp, by simp⟩
    rw [line_of_clear hlines]
    simp
  · have hassigned : assigned argument.toNat = true := by
      simpa [State.verdict, refuseIf] using hverdict
    obtain ⟨t, hexec, hlines, hframe, hothers, htold⟩ := queryConfig_answered ho hassigned
    refine ⟨t, _, hexec, hframe, hothers, htold, fun n => ?_, by simp, by simp, by simp, fun _ => rfl, by simp⟩
    rw [line_of_lines hlines]
    rfl
  · obtain ⟨t, hexec, hlines, hframe, hothers, htold⟩ := queryField_answered ho
    refine ⟨t, _, hexec, hframe, hothers, htold, fun n => ?_, by simp, by simp, by simp, by simp, fun _ => rfl⟩
    rw [line_of_lines hlines]
    rfl

end Sys2Proof.Schedule
end

section
/-! An accepted CANCEL (R89, R162): its entries leave with the jobs and the staged records of the recalls among them. -/

open Sys2Proof Sys2Proof.Machine Sys2Proof.TransitionController Sys2Proof.TransitionArithmetic

namespace Sys2Proof.Schedule

/-! ### Several recalls leave the queue (R162) -/

/-- While an access is carried to its end for an abandoned job, recalls that leave change neither stage nor port
(R162). -/
theorem dropRecall_draining {g : Engine} {access : Access} (hstage : g.stage = none) (hport : g.port = some access)
    (now : Micros) (items : Vector (BitVec 16) 88) (b : BankIx) :
    (g.dropRecall now items b).stage = none ∧ (g.dropRecall now items b).port = some access := by
  obtain ⟨hgone, hkept⟩ := Engine.dropRecall_keepsAccess g now items b
  by_cases hhead : ∃ j, g.jobs.head? = some j ∧ j.isRecallOf b = true
  · exact hgone hhead access hport
  · obtain ⟨hs, hp⟩ := hkept (fun j hj hb => hhead ⟨j, hj, hb⟩) (.inr (by rw [hport]; rfl))
    exact ⟨hs.trans hstage, hp.trans hport⟩

theorem dropRecalls_draining {g : Engine} {access : Access} (hstage : g.stage = none) (hport : g.port = some access)
    (now : Micros) (items : Vector (BitVec 16) 88) (bs : List BankIx) :
    (dropRecalls g now items bs).stage = none ∧ (dropRecalls g now items bs).port = some access := by
  induction bs generalizing g with
  | nil => exact ⟨hstage, hport⟩
  | cons b bs ih =>
    obtain ⟨hs, hp⟩ := dropRecall_draining hstage hport now items b
    exact ih hs hp

/-- A job at the head that is no recall of the bank stays there. -/
theorem dropRecall_head {g : Engine} {b : BankIx} {j : Job} (hhead : g.jobs.head? = some j)
    (hj : ¬ j.isRecallOf b = true) (now : Micros) (items : Vector (BitVec 16) 88) :
    (g.dropRecall now items b).jobs.head? = some j := by
  obtain ⟨rest, hjobs⟩ := List.head?_eq_some_iff.mp hhead
  rw [dropRecall_jobs, hjobs, List.filter_cons_of_pos (by simpa using hj)]
  rfl

theorem dropRecall_head_of {g : Engine} {b : BankIx} {i : Job}
    (hstay : ∀ j, g.jobs.head? = some j → ¬ j.isRecallOf b = true) {now : Micros} {items : Vector (BitVec 16) 88}
    (hhead : (g.dropRecall now items b).jobs.head? = some i) : g.jobs.head? = some i := by
  cases hj : g.jobs.head? with
  | none =>
    rw [dropRecall_jobs, List.head?_eq_none_iff.mp hj] at hhead
    cases hhead
  | some j => rw [← hhead, dropRecall_head hj (hstay j hj)]

/-- Recalls that leave one after another abandon an active job among them, and leave any other as it is (R162). -/
theorem dropRecalls_keepsAccess (g : Engine) (now : Micros) (items : Vector (BitVec 16) 88) (bs : List BankIx) :
    g.KeepsAccess (dropRecalls g now items bs) fun j => ∃ b ∈ bs, j.isRecallOf b = true := by
  induction bs generalizing g with
  | nil => exact ⟨fun ⟨_, _, _, hb, _⟩ => absurd hb List.not_mem_nil, fun _ _ => ⟨rfl, rfl⟩⟩
  | cons b bs ih =>
    obtain ⟨hgone, hkept⟩ := Engine.dropRecall_keepsAccess g now items b
    obtain ⟨hgoneRest, hkeptRest⟩ := ih (g.dropRecall now items b)
    constructor
    · rintro ⟨j, hhead, c, hc, hjc⟩ access hport
      by_cases hj : j.isRecallOf b = true
      · obtain ⟨hs, hp⟩ := hgone ⟨j, hhead, hj⟩ access hport
        exact dropRecalls_draining hs hp now items bs
      · have hcbs : c ∈ bs := by
          obtain rfl | hcbs := List.mem_cons.mp hc
          · exact absurd hjc hj
          · exact hcbs
        have hstay : ∀ i, g.jobs.head? = some i → ¬ i.isRecallOf b = true := fun i hi => by
          rw [hhead] at hi
          cases hi
          exact hj
        obtain ⟨-, hp⟩ := hkept hstay (.inr (by rw [hport]; rfl))
        exact hgoneRest ⟨j, dropRecall_head hhead hj now items, c, hcbs, hjc⟩ access (hp.trans hport)
    · intro hstay hbusy
      have hfirst : ∀ j, g.jobs.head? = some j → ¬ j.isRecallOf b = true := fun j hj hb =>
        hstay j hj ⟨b, List.mem_cons_self, hb⟩
      obtain ⟨hs, hp⟩ := hkept hfirst hbusy
      obtain ⟨hs', hp'⟩ := hkeptRest (fun i hi ⟨c, hc, hic⟩ =>
        hstay i (dropRecall_head_of hfirst hi) ⟨c, List.mem_cons_of_mem b hc, hic⟩) (by rw [hs, hp]; exact hbusy)
      exact ⟨hs'.trans hs, hp'.trans hp⟩

/-- Which jobs leave is asked of the head of the queue alone. -/
theorem keepsAccess_congr {g h : Engine} {p p' : Job → Prop} (hp : ∀ j ∈ g.jobs, p j ↔ p' j)
    (hkeeps : g.KeepsAccess h p) : g.KeepsAccess h p' := by
  obtain ⟨hgone, hkept⟩ := hkeeps
  have hhead : ∀ j, g.jobs.head? = some j → (p j ↔ p' j) := fun j hj => hp j (List.mem_of_head? hj)
  exact ⟨fun ⟨j, hj, hpj⟩ => hgone ⟨j, hj, (hhead j hj).mpr hpj⟩,
    fun hstay => hkept fun j hj hpj => hstay j hj ((hhead j hj).mp hpj)⟩

/-! ### The recalls that a CANCEL names (R89) -/

/-- A recall job is of the origin of its entry, so a CANCEL removes it with its entry (R85, R89). -/
theorem cancelled_iff_origin {s : State} (h : s.RecallsPaired) {b : BankIx} {r : Nat} {o : Origin}
    (hj : Job.recallEffect b r o ∈ s.engine.jobs) (l : LinkIx) (tag : Byte) :
    b ∈ cancelledRecalls s l tag ↔ o = .link l tag := by
  have hwork : (r, o) ∈ (inFlight s b).jobs := List.mem_filterMap.mpr ⟨_, hj, if_pos rfl⟩
  have hentries : s.schedule.filterMap (recallSeen b) = [(r, false, o)] := by
    have hpaired := paired_bank h b
    have hlist : s.schedule.filterMap (recallSeen b) = (inFlight s b).entries := rfl
    rw [hlist]
    generalize inFlight s b = f at hpaired hwork
    cases hpaired with
    | absent => cases hwork
    | fetching r' o' =>
      cases List.mem_singleton.mp hwork
      rfl
    | staged r' o' => cases hwork
  rw [mem_cancelledRecalls]
  constructor
  · rintro ⟨e, he, hnamed, hrecall⟩
    obtain ⟨x, hx⟩ := Option.isSome_iff_exists.mp (isRecallOf_eq b e ▸ hrecall)
    have hmem : x ∈ s.schedule.filterMap (recallSeen b) := List.mem_filterMap.mpr ⟨e, he, hx⟩
    rw [hentries, List.mem_singleton] at hmem
    have horigin := recallSeen_origin hx
    rw [hmem] at horigin
    exact horigin.trans (eq_of_beq hnamed)
  · rintro rfl
    have hmem : (r, false, Origin.link l tag) ∈ s.schedule.filterMap (recallSeen b) := by
      rw [hentries]
      exact List.mem_cons_self
    obtain ⟨e, he, hx⟩ := List.mem_filterMap.mp hmem
    refine ⟨e, he, beq_iff_eq.mpr (recallSeen_origin hx).symm, ?_⟩
    rw [isRecallOf_eq, hx]
    rfl

/-- The jobs that a CANCEL removes are those of its link's tag (R89, R162). -/
theorem cancelled_job_iff {s : State} (h : s.RecallsPaired) {j : Job} (hj : j ∈ s.engine.jobs) (l : LinkIx)
    (tag : Byte) :
    (∃ b ∈ cancelledRecalls s l tag, j.isRecallOf b = true) ↔ ∃ b r, j = .recallEffect b r (.link l tag) := by
  constructor
  · rintro ⟨b, hb, hjb⟩
    cases j with
    | recallEffect c r o =>
      have hc : c = b := eq_of_beq hjb
      subst hc
      exact ⟨c, r, by rw [(cancelled_iff_origin h hj l tag).mp hb]⟩
    | _ => cases hjb
  · rintro ⟨b, r, rfl⟩
    exact ⟨b, (cancelled_iff_origin h hj l tag).mpr rfl, beq_self_eq_true b⟩

theorem mem_cancel_jobs {s : State} (h : s.RecallsPaired) (l : LinkIx) (tag : Byte) (j : Job) :
    j ∈ (s.cancel l tag).engine.jobs ↔ j ∈ s.engine.jobs ∧ ∀ b r, j ≠ .recallEffect b r (.link l tag) := by
  have hengine : (s.cancel l tag).engine = dropRecalls s.engine s.now s.items (cancelledRecalls s l tag) := rfl
  rw [hengine, dropRecalls_jobs, List.mem_filter]
  refine and_congr_right fun hj => ?_
  have hgone := cancelled_job_iff h hj l tag
  rw [List.all_eq_true]
  constructor
  · intro hstay b r hjr
    obtain ⟨c, hc, hjc⟩ := hgone.mpr ⟨b, r, hjr⟩
    have hkept := hstay c hc
    rw [hjc] at hkept
    cases hkept
  · intro hstay b hb
    by_contra hjb
    obtain ⟨c, r, hjr⟩ := hgone.mp ⟨b, hb, by simpa using hjb⟩
    exact hstay c r hjr

theorem bank_cancel (s : State) (l : LinkIx) (tag : Byte) (b : BankIx) :
    (s.cancel l tag).bank b =
      if s.schedule.any fun e => e.isRecallOf b && e.origin == .link l tag then { s.bank b with staging := none }
      else s.bank b := by
  have hbank : (s.cancel l tag).bank b =
      if (cancelledRecalls s l tag).contains b then { s.bank b with staging := none } else s.bank b := pick_tab ..
  have hnamed : (cancelledRecalls s l tag).contains b =
      s.schedule.any fun e => e.isRecallOf b && e.origin == .link l tag := by
    rw [Bool.eq_iff_iff, List.contains_iff_mem, mem_cancelledRecalls, List.any_eq_true]
    refine exists_congr fun e => and_congr_right fun _ => ?_
    rw [Bool.and_eq_true, and_comm]
    rfl
  rw [hbank, hnamed]

/-- A CANCEL that finds an entry is answered with their number (R89, R131). -/
theorem execCancel_accepted {s : State} {l : LinkIx} {q : QueueKind} {tag named : Byte}
    (ho : s.offer = some ⟨l, q, tag, .cancel named⟩) (hverdict : s.verdict ⟨l, q, tag, .cancel named⟩ = none) :
    exec .cancel s = .next (((s.takeRequest ⟨l, q, tag, .cancel named⟩).cancel l named).accept
      ⟨l, q, tag, .cancel named⟩ (.count (s.schedule.filter fun e => e.origin == .link l named).length)) := by
  have hany : s.schedule.any (Entry.cancelledBy l named) = true := by
    simpa [State.verdict, refuseIf] using hverdict
  have hsome : ¬ (s.schedule.filter (Entry.cancelledBy l named)).length = 0 := by
    obtain ⟨e, he, hnamed⟩ := List.any_eq_true.mp hany
    exact List.length_pos_of_mem (List.mem_filter.mpr ⟨he, hnamed⟩) |>.ne'
  simp only [exec, execCancel, ho]
  exact congrArg _ (if_neg hsome)

/-- Settles O8: the entries by the filter, the jobs and the active one by `cancelled_job_iff`. -/
theorem cancelRemovesItsLinksEntries : Obligations.CancelRemovesItsLinksEntries := by
  rintro s ⟨l, q, tag, body⟩ named hpaired ho rfl hverdict
  refine ⟨_, execCancel_accepted ho hverdict, rfl, rfl, mem_cancel_jobs hpaired l named, ?_, bank_cancel s l named,
    fun m hm => ?_, ?_⟩
  · exact keepsAccess_congr (fun j hj => cancelled_job_iff hpaired hj l named)
      (dropRecalls_keepsAccess s.engine s.now s.items (cancelledRecalls s l named))
  · exact (State.link_send_other _ hm _).trans (State.link_takeRequest_other s hm)
  · rw [State.accept, State.link_send_same]
    exact Link.place_queues ..

end Sys2Proof.Schedule
end

section
/-! A RECALL queued (R85, R88, R161, R162), and the actions of GPI lines (R108, R175). -/

open Sys2Proof Sys2Proof.Machine Sys2Proof.TransitionController Sys2Proof.TransitionArithmetic

namespace Sys2Proof.Schedule

/-! ### Supersede (R88) -/

/-- The recalls that a supersede takes out of the list: the one it finds, or none. -/
theorem recalls_eq {s : State} (h : s.RecallsPaired) (b : BankIx) :
    s.schedule.filter (Entry.isRecallOf b) = (s.recallOf b).toList := by
  cases hb : s.recallOf b with
  | none => exact List.filter_eq_nil_iff.mpr fun e he => List.find?_eq_none.mp hb e he
  | some e =>
    obtain ⟨hone, -, -⟩ := (paired_iff s b).mpr (paired_bank h b)
    have hmem : e ∈ s.schedule.filter (Entry.isRecallOf b) :=
      List.mem_filter.mpr ⟨List.mem_of_find?_eq_some hb, List.find?_some hb⟩
    generalize s.schedule.filter (Entry.isRecallOf b) = recalls at hone hmem
    obtain _ | ⟨x, _ | ⟨y, rest⟩⟩ := recalls
    · cases hmem
    · rw [List.mem_singleton.mp hmem]
      rfl
    · simp at hone

theorem supersede_frame (s : State) (b : BankIx) :
    s.supersede b = { s with
      schedule := (s.supersede b).schedule, banks := (s.supersede b).banks, links := (s.supersede b).links
      engine := (s.supersede b).engine } := by
  unfold State.supersede
  split
  · rfl
  · rfl

/-- The older recall's record leaves staging, if there is one (R166). -/
theorem supersede_banks {s : State} (h : s.RecallsPaired) (b : BankIx) :
    (s.supersede b).banks = upd s.banks b fun k => { k with staging := none } := by
  unfold State.supersede
  split
  · rfl
  · rename_i hnone
    have hrecord : (pick s.banks b).staging.isSome = false := congrArg InFlight.staged (recallOf_none h hnone)
    have hstaging : (pick s.banks b).staging = none := by simpa using hrecord
    refine table_ext fun c => ?_
    rw [pick_upd]
    split
    · rename_i hc
      rw [hc, ← hstaging]
    · rfl

/-- The older recall's job, if it is active, is abandoned (R162). -/
theorem supersede_keepsAccess {s : State} (h : s.RecallsPaired) (b : BankIx) :
    s.engine.KeepsAccess (s.supersede b).engine fun j => j.isRecallOf b = true := by
  unfold State.supersede
  split
  · exact Engine.dropRecall_keepsAccess ..
  · rename_i hnone
    have hjobs : s.engine.jobs.filterMap (Job.recallFor b) = [] := congrArg InFlight.jobs (recallOf_none h hnone)
    refine ⟨fun ⟨j, hj, hrecall⟩ => ?_, fun _ _ => ⟨rfl, rfl⟩⟩
    have hsome := recallFor_isSome b j
    rw [List.filterMap_eq_nil_iff.mp hjobs j (List.mem_of_head? hj), hrecall] at hsome
    cases hsome

/-- An empty queue holds no recall. -/
theorem supersede_idle {s : State} (hidle : s.engine.jobs = []) (b : BankIx) : (s.supersede b).engine = s.engine := by
  unfold State.supersede
  split
  · have hdrop : s.engine.dropRecall s.now s.items b = s.engine := by
      simp only [Engine.dropRecall, hidle]
    exact hdrop
  · rfl

/-- The older recall's origin is told SUPERSEDED (R88). -/
theorem supersede_told {s : State} (h : s.RecallsPaired) (b : BankIx) (l : LinkIx) :
    (s.link l).QueuesAll s.now (s.noticesTo l .superseded (s.schedule.filter (Entry.isRecallOf b)))
      ((s.supersede b).link l) := by
  rw [recalls_eq h]
  unfold State.supersede
  split
  · rename_i e he
    have hbank : e.bank = b := bank_of_isRecallOf (List.find?_some he)
    rw [he, ← hbank]
    exact notify_queuesAll (s.dropRecall e.bank) e .superseded l
  · rename_i hnone
    rw [hnone]
    rfl

/-! ### The FETCHING entry and its job (R85, R161) -/

/-- A job that joins the queue leaves an engine at work as it is (R161). -/
theorem keepsAccess_enqueue {g h : Engine} {p : Job → Prop} (hkeeps : g.KeepsAccess h p) (now : Micros)
    (items : Vector (BitVec 16) 88) (j : Job) : g.KeepsAccess (h.enqueue now items j) p := by
  obtain ⟨hgone, hkept⟩ := hkeeps
  constructor
  · intro hhead access hport
    obtain ⟨hs, hp⟩ := hgone hhead access hport
    rw [Engine.enqueue_busy h now items j (.inr (by rw [hp]; rfl))]
    exact ⟨hs, hp⟩
  · intro hstay hbusy
    obtain ⟨hs, hp⟩ := hkept hstay hbusy
    rw [Engine.enqueue_busy h now items j (by rw [hs, hp]; exact hbusy)]
    exact ⟨hs, hp⟩

/-- What a RECALL inserted makes of the state: the older recall of its bank is gone, and one FETCHING entry and its job
stand. -/
structure RecallQueued (s t : State) (due : FieldNo) (o : Origin) (b : BankIx) (r : Nat) : Prop where
  frame : t = { s with
    schedule := t.schedule, nextSet := s.nextSet + 1, banks := t.banks, links := t.links, engine := t.engine }
  schedule : t.schedule = insertEntry (newEntry due o b (.recallEffect r false) none)
    (s.schedule.filter fun e => !e.isRecallOf b)
  jobs : t.engine.jobs = (s.engine.jobs.filter fun j => !j.isRecallOf b) ++ [.recallEffect b r o]
  access : s.engine.KeepsAccess t.engine fun j => j.isRecallOf b = true
  first : s.engine = { jobs := [], stage := none, port := none } → t.engine.FirstAccess s.now s.items
  banks : t.banks = upd s.banks b fun k => { k with staging := none }
  told : ∀ l, (s.link l).QueuesAll s.now (s.noticesTo l .superseded (s.schedule.filter (Entry.isRecallOf b))) (t.link l)

theorem insertRecall_queued {s : State} (h : s.RecallsPaired) (due : FieldNo) (o : Origin) (b : BankIx) (r : Nat) :
    RecallQueued s (s.insertRecall due o b r) due o b r where
  frame := by
    unfold State.insertRecall
    rw [supersede_frame]
    rfl
  schedule := congrArg (insertEntry (newEntry due o b (.recallEffect r false) none)) (supersede_schedule s b)
  jobs := by
    rw [← supersede_jobs h b]
    exact enqueue_jobs ..
  access := keepsAccess_enqueue (supersede_keepsAccess h b) ..
  first hidle := by
    have hengine : (s.insertRecall due o b r).engine =
        (s.supersede b).engine.enqueue (s.supersede b).now (s.supersede b).items (.recallEffect b r o) := rfl
    have hnow : (s.supersede b).now = s.now := by rw [supersede_frame]
    have hitems : (s.supersede b).items = s.items := by rw [supersede_frame]
    rw [hengine, hnow, hitems, supersede_idle (by rw [hidle]), hidle]
    exact activate_firstAccess (g := { jobs := [.recallEffect b r o], stage := none, port := none }) rfl rfl ..
  banks := supersede_banks h b
  told := supersede_told h b

/-! ### GPI lines (R108, R175, R180) -/

theorem lockedElement_iff (s : State) (e : ElemIx) :
    s.lockedElement e = true ↔ ∃ c, s.claim e = some c ∧ c.lock = true := by
  unfold State.lockedElement
  cases s.claim e with
  | none => simp
  | some c => simp

theorem any_locked_iff (s : State) (es : List ElemIx) :
    es.any s.lockedElement = true ↔ ∃ e ∈ es, ∃ c, s.claim e = some c ∧ c.lock = true := by
  simp only [List.any_eq_true, lockedElement_iff]

theorem none_locked {s : State} {es : List ElemIx} (h : ∀ e ∈ es, ∀ c, s.claim e = some c → c.lock = false) :
    es.any s.lockedElement = false := by
  rw [Bool.eq_false_iff, ne_eq, any_locked_iff]
  rintro ⟨e, he, c, hc, hlock⟩
  rw [h e he c hc] at hlock
  cases hlock

/-- The high byte of an argument names an enabled bank, or no bank (R180). -/
theorem bankOf_high {s : State} {arg : BitVec 16} {b : BankIx} (hb : arg.toNat / 256 = b.val + 1)
    (henabled : s.enabled b = true) : s.bankOf (BitVec.ofNat 8 (arg.toNat / 256)) = .ok b := by
  have hfour := b.isLt
  have hnat : (BitVec.ofNat 8 (arg.toNat / 256)).toNat = b.val + 1 := by
    rw [BitVec.toNat_ofNat, hb]
    omega
  have hrange : 1 ≤ (BitVec.ofNat 8 (arg.toNat / 256)).toNat ∧ (BitVec.ofNat 8 (arg.toNat / 256)).toNat ≤ 4 := by omega
  have hindex : ∀ hlt, (⟨(BitVec.ofNat 8 (arg.toNat / 256)).toNat - 1, hlt⟩ : BankIx) = b := fun hlt =>
    Fin.ext (by simp only [hnat, Nat.add_sub_cancel])
  rw [State.bankOf, dif_pos hrange, hindex, if_pos henabled]

theorem bankOf_enabled {s : State} {c : Byte} {b : BankIx} (h : s.bankOf c = .ok b) : s.enabled b = true := by
  unfold State.bankOf at h
  split at h
  · split at h
    · cases h
      assumption
    · cases h
  · cases h

/-- A line's RECALL that names no enabled bank or no register does nothing (R180). -/
theorem gpiRecall_unnamed {s : State} {n : LineIx}
    (h : (∀ b : BankIx, s.enabled b = true → (s.gpiArg n).toNat / 256 ≠ b.val + 1) ∨ 99 < (s.gpiArg n).toNat % 256) :
    s.gpiRecall n = s := by
  unfold State.gpiRecall
  dsimp only
  split
  · rfl
  rename_i b hb
  obtain hnone | hregister := h
  · have hnumber := bankOf_number hb
    rw [BitVec.toNat_ofNat, Nat.mod_eq_of_lt (by omega)] at hnumber
    exact absurd hnumber (hnone b (bankOf_enabled hb))
  · rw [if_pos hregister]

/-- A line's RECALL of an enabled bank and a register is dropped whole, or inserted (R108, R175). -/
theorem gpiRecall_eq {s : State} {n : LineIx} {b : BankIx} (hb : (s.gpiArg n).toNat / 256 = b.val + 1)
    (henabled : s.enabled b = true) (hregister : (s.gpiArg n).toNat % 256 ≤ 99) :
    s.gpiRecall n =
      if (bankElements b).any s.lockedElement || decide (s.freePlacesForRecall b < 1) ||
          decide (Config.jobPlaces ≤ s.jobsBesideRecall b) then s.dropAction n
      else s.insertRecall (s.dueField (s.gpiLead n)) (.line n) b ((s.gpiArg n).toNat % 256) := by
  simp only [State.gpiRecall, bankOf_high hb henabled, if_neg (Nat.not_lt.mpr hregister)]

/-- The enabled banks of a line's mask, by its bits (R180). -/
theorem gpiBanks_eq (s : State) (n : LineIx) :
    s.gpiBanks n = (indices 4).filter fun b => (s.gpiArg n).getLsbD b.val && s.enabled b := by
  rw [State.gpiBanks, maskBanks, List.filter_filter]
  refine List.filter_congr fun b _ => ?_
  have hbit : ((s.gpiArg n).toNat % 16).testBit b.val = (s.gpiArg n).getLsbD b.val := by
    have hlow := Nat.testBit_mod_two_pow (s.gpiArg n).toNat 4 b.val
    rwa [decide_eq_true b.isLt, Bool.true_and] at hlow
  rw [hbit, Bool.and_comm]

/-- A line's CUT, AUTO or HOLD (R175). -/
theorem gpiAction_take {s : State} {n : LineIx} {action : Action}
    (h : ((s.gpiMode n).toNat / 256) % 8 = 1 ∧ action = .cut ∨ ((s.gpiMode n).toNat / 256) % 8 = 2 ∧ action = .auto ∨
      ((s.gpiMode n).toNat / 256) % 8 = 3 ∧ action = .hold) : s.gpiAction n = s.gpiTake n action := by
  obtain ⟨hmode, rfl⟩ | ⟨hmode, rfl⟩ | ⟨hmode, rfl⟩ := h
  · simp only [State.gpiAction, hmode]
  · simp only [State.gpiAction, hmode]
  · simp only [State.gpiAction, hmode]

theorem gpiAction_recall {s : State} {n : LineIx} (h : ((s.gpiMode n).toNat / 256) % 8 = 4) :
    s.gpiAction n = s.gpiRecall n := by
  simp only [State.gpiAction, h]

/-- A line's RECALL under a LOCK, or without room beside an older recall of its bank, is dropped (R108, R175). -/
theorem gpiRecall_dropped {s : State} {n : LineIx} {b : BankIx} (hb : (s.gpiArg n).toNat / 256 = b.val + 1)
    (henabled : s.enabled b = true) (hregister : (s.gpiArg n).toNat % 256 ≤ 99)
    (h : (∃ e ∈ bankElements b, ∃ c, s.claim e = some c ∧ c.lock = true) ∨
      64 ≤ (s.schedule.filter fun e => !e.isRecallOf b).length ∨
      4 ≤ (s.engine.jobs.filter fun j => !j.isRecallOf b).length) :
    s.gpiRecall n = s.modLine n fun g => { g with dropped := true } := by
  refine (gpiRecall_eq hb henabled hregister).trans (if_pos ?_)
  simp only [Bool.or_eq_true, decide_eq_true_eq, any_locked_iff]
  obtain hlocked | hlist | hqueue := h
  · exact .inl (.inl hlocked)
  · have hfull : s.freePlacesForRecall b < 1 := by
      rw [State.freePlacesForRecall, Nat.sub_eq_zero_of_le hlist]
      exact Nat.zero_lt_one
    exact .inl (.inr hfull)
  · exact .inr hqueue

/-- A line's RECALL with no LOCK in its way and with room is inserted (R85, R175). -/
theorem gpiRecall_inserted {s : State} {n : LineIx} {b : BankIx} (hb : (s.gpiArg n).toNat / 256 = b.val + 1)
    (henabled : s.enabled b = true) (hregister : (s.gpiArg n).toNat % 256 ≤ 99)
    (hfree : ∀ e ∈ bankElements b, ∀ c, s.claim e = some c → c.lock = false)
    (hlist : (s.schedule.filter fun e => !e.isRecallOf b).length < 64)
    (hqueue : (s.engine.jobs.filter fun j => !j.isRecallOf b).length < 4) :
    s.gpiRecall n = s.insertRecall (s.dueField (s.gpiLead n)) (.line n) b ((s.gpiArg n).toNat % 256) := by
  refine (gpiRecall_eq hb henabled hregister).trans (if_neg ?_)
  have hplace : ¬ s.freePlacesForRecall b < 1 := Nat.not_lt.mpr (Nat.sub_pos_of_lt hlist)
  have hjobs : ¬ Config.jobPlaces ≤ s.jobsBesideRecall b := Nat.not_le.mpr hqueue
  simp [none_locked hfree, hplace, hjobs]

/-- A line's CUT, AUTO or HOLD under a LOCK or without room is dropped (R108, R175). -/
theorem gpiTake_dropped {s : State} {n : LineIx} {action : Action} (hbanks : s.gpiBanks n ≠ [])
    (h : (∃ b ∈ s.gpiBanks n, ∃ c, s.claim (transElement b) = some c ∧ c.lock = true) ∨
      64 < s.schedule.length + (s.gpiBanks n).length) :
    s.gpiTake n action = s.modLine n fun g => { g with dropped := true } := by
  have hsome : ¬ (s.gpiBanks n).isEmpty = true := by simpa using hbanks
  refine (if_neg hsome).trans (if_pos ?_)
  rw [Bool.or_eq_true, decide_eq_true_eq, List.any_eq_true]
  obtain ⟨b, hb, hlocked⟩ | hroom := h
  · exact .inl ⟨b, hb, (lockedElement_iff s _).mpr hlocked⟩
  · have hpos : 0 < (s.gpiBanks n).length := List.length_pos_iff.mpr hbanks
    have hplaces : Config.listPlaces = 64 := rfl
    refine .inr ?_
    rw [State.freePlaces, hplaces]
    omega

/-- A line's CUT, AUTO or HOLD makes one entry for each of its banks (R71, R175). -/
theorem gpiTake_inserted {s : State} {n : LineIx} {action : Action} (hbanks : s.gpiBanks n ≠ [])
    (hfree : ∀ b ∈ s.gpiBanks n, ∀ c, s.claim (transElement b) = some c → c.lock = false)
    (hroom : s.schedule.length + (s.gpiBanks n).length ≤ 64) :
    s.gpiTake n action = s.insertAction (s.dueField (s.gpiLead n)) (.line n) (s.gpiBanks n) action := by
  have hsome : ¬ (s.gpiBanks n).isEmpty = true := by simpa using hbanks
  refine (if_neg hsome).trans (if_neg ?_)
  rw [Bool.or_eq_true, decide_eq_true_eq, List.any_eq_true]
  rintro (⟨b, hb, hlocked⟩ | hfull)
  · obtain ⟨c, hc, hlock⟩ := (lockedElement_iff s _).mp hlocked
    rw [hfree b hb c hc] at hlock
    cases hlock
  · have hplaces : Config.listPlaces = 64 := rfl
    rw [State.freePlaces, hplaces] at hfull
    omega

/-- Settles O54: NONE by the mode, a RECALL by `gpiRecall_eq` and `insertRecall_queued`, and a take by `gpiTake_dropped`
and `gpiTake_inserted`. -/
theorem gpiActionsYieldToLocksAndRoom : Obligations.GpiActionsYieldToLocksAndRoom := by
  refine ⟨fun s n hmode => ?_, fun s n _ hmode => ?_, fun s n b r _ hmode harg henabled hr hfree => ?_,
    fun s n action banks haction hbanks => ?_⟩
  · simp only [State.gpiAction, hmode]
  · rw [gpiAction_recall hmode]
    exact ⟨gpiRecall_unnamed, fun b hb henabled hregister hlocked =>
      gpiRecall_dropped hb henabled hregister (.inl hlocked)⟩
  · have hb : (s.gpiArg n).toNat / 256 = b.val + 1 := by omega
    have hregister : (s.gpiArg n).toNat % 256 = r := by omega
    have hlimit : (s.gpiArg n).toNat % 256 ≤ 99 := hregister ▸ hr
    rw [gpiAction_recall hmode]
    refine ⟨fun hroom => gpiRecall_dropped hb henabled hlimit (.inr hroom), fun hpaired hlist hqueue => ?_⟩
    obtain ⟨hframe, hschedule, hjobs, haccess, hfirst, hbanks, htold⟩ :=
      insertRecall_queued hpaired (s.dueField (s.gpiLead n)) (.line n) b r
    have hinserted := gpiRecall_inserted hb henabled hlimit hfree hlist hqueue
    rw [hregister] at hinserted
    exact ⟨_, hinserted, hframe, hschedule, hjobs, haccess, hfirst, hbanks, htold⟩
  · rw [← gpiBanks_eq] at hbanks
    subst hbanks
    rw [gpiAction_take haction]
    exact ⟨fun hnone => if_pos (by rw [hnone]; rfl), fun hsome =>
      ⟨gpiTake_dropped hsome, fun hfree hroom => gpiTake_inserted hsome hfree hroom⟩⟩

end Sys2Proof.Schedule
end

section
/-! An accepted RECALL (R69, R85, R88, R95, R100, R161, R162). -/

open Sys2Proof Sys2Proof.Machine Sys2Proof.TransitionController Sys2Proof.TransitionArithmetic

namespace Sys2Proof.Schedule

/-! ### Frames that nothing replaces (R121) -/

theorem mem_foldl_place_of_kept {fs : List TxFrame} {f : TxFrame} (hkept : ∀ g : TxFrame, g.replaces f = false)
    (hf : f ∈ fs) (now : Micros) {k : Link} (hup : k.up = true) :
    f ∈ (fs.foldl (fun k f => k.place now f) k).outgoing := by
  induction fs generalizing k with
  | nil => cases hf
  | cons g fs ih =>
    obtain rfl | hf := List.mem_cons.mp hf
    · exact mem_foldl_place_of_mem (mem_place_outgoing hup now f) (fun g _ => hkept g) now
    · exact ih hf (by rw [Link.place_up, hup])

/-- A NOTICE among the frames for an UP link is among what it has to send (R121, R122). -/
theorem notice_mem_outgoing {now : Micros} {k j : Link} {fs : List TxFrame} (htold : k.QueuesAll now fs j)
    (hup : k.up = true) {tag : Byte} {reason : Reason} {b : Option BankIx} (hf : .notice tag reason b ∈ fs) :
    .notice tag reason b ∈ j.outgoing := by
  rw [htold.unique (Link.foldl_place_queues now fs k)]
  exact mem_foldl_place_of_kept (fun g => by cases g <;> rfl) hf now hup

theorem notice_mem_noticesTo {s : State} {es : List Entry} {e : Entry} (he : e ∈ es) {p : LinkIx} {tag : Byte}
    (ho : e.origin = .link p tag) (hup : (s.link p).up = true) (reason : Reason) :
    .notice tag reason (some e.bank) ∈ s.noticesTo p reason es := by
  rw [noticesTo_eq_flatMap, List.mem_flatMap]
  refine ⟨e, he, ?_⟩
  rw [noticesTo_link ho, if_pos ⟨rfl, hup⟩]
  exact List.mem_singleton_self _

theorem noticesTo_congr {s t : State} {l : LinkIx} (hup : (t.link l).up = (s.link l).up) (reason : Reason)
    (es : List Entry) : t.noticesTo l reason es = s.noticesTo l reason es := by
  simp only [State.noticesTo, hup]

/-! ### The elements of a bank (R94, R95) -/

theorem bankElements_number : ∀ b : BankIx, (bankElements b).map Fin.val = (List.range 6).map (6 * b.val + ·) := by
  decide

theorem transElement_mem (b : BankIx) : transElement b ∈ bankElements b :=
  List.mem_cons_of_mem _ List.mem_cons_self

theorem transElement_notMem {b c : BankIx} (h : c ≠ b) : transElement c ∉ bankElements b := by
  revert b c
  decide

/-- The use of a bank's elements is the use of its TRANS element, and of no other bank's (R40, R100). -/
theorem bank_useElements (s : State) (l : LinkIx) (b c : BankIx) :
    (s.useElements l (bankElements b)).bank c =
      if c = b then (if claimHolder (s.claim (transElement b)) = some l then s.bank b else (s.bank b).clearLever)
      else s.bank c := by
  rw [State.useElements, State.bank_setClaims, pick_usedClaims, List.contains_eq_mem]
  by_cases hc : c = b
  · subst hc
    have hholder : claimHolder (some (usedClaim l (pick s.claims (transElement c)))) = some l :=
      congrArg some (usedClaim_holder ..)
    rw [if_pos rfl, decide_eq_true (transElement_mem c), if_pos rfl, hholder]
  · rw [if_neg hc, decide_eq_false (transElement_notMem hc), if_neg Bool.false_ne_true]
    exact if_pos rfl

/-! ### The tests and the writes of a RECALL (R85, R126) -/

theorem paired_useElements {s : State} (h : s.RecallsPaired) (l : LinkIx) (es : List ElemIx) :
    (s.useElements l es).RecallsPaired :=
  paired_of h (.refl _) id (Nat.le_refl _) fun b => .inl (inFlight_congr rfl rfl (by
    rw [State.useElements, State.bank_setClaims]
    split <;> rfl))

theorem orElse_none {first next : Option (Reason × Option LinkIx)} (h : orElse first next = none) :
    first = none ∧ next = none := by
  cases first with
  | none => exact ⟨rfl, h⟩
  | some v => cases h

theorem refuseIf_none {p : Prop} [Decidable p] {reason : Reason} (h : refuseIf p reason = none) : ¬ p := by
  intro hp
  simp [refuseIf, hp] at h

theorem recallVerdict_none {s : State} {l : LinkIx} {bank register : Byte} {b : BankIx} {r : Nat}
    (hb : s.bankRegister bank register = .ok (b, r)) (h : s.recallVerdict l bank register = none) :
    s.elementsRefusal l (bankElements b) = none ∧ ¬ s.freePlacesForRecall b < 1 ∧
      ¬ Config.jobPlaces ≤ s.jobsBesideRecall b := by
  simp only [State.recallVerdict, hb] at h
  obtain ⟨hpass, h⟩ := orElse_none h
  obtain ⟨hlist, hjobs⟩ := orElse_none h
  exact ⟨hpass, refuseIf_none hlist, refuseIf_none hjobs⟩

theorem bankRegister_named {s : State} {bank register : Byte} {b : BankIx} {r : Nat}
    (h : s.bankRegister bank register = .ok (b, r)) : bank.toNat = b.val + 1 ∧ r = register.toNat := by
  obtain ⟨c, hc, h⟩ := bind_eq_ok h
  obtain ⟨k, hk, h⟩ := bind_eq_ok h
  cases h
  have hregister := named_eq_ok hk
  unfold registerOf at hregister
  split at hregister
  · cases hregister
    exact ⟨bankOf_number hc, rfl⟩
  · cases hregister

theorem supersede_up (s : State) (b : BankIx) (l : LinkIx) : ((s.supersede b).link l).up = (s.link l).up := by
  unfold State.supersede
  split
  · exact notify_up ..
  · rfl

/-- The writes of a RECALL that passes: its claims, its entry and its job, and its ACCEPT (R85, R100, R131). -/
theorem serveRecall_accepted {s : State} {o : Offer} {bank register lead : Byte} {b : BankIx} {r : Nat}
    (hup : (s.link o.link).up = true) (hb : s.bankRegister bank register = .ok (b, r))
    (hpass : s.elementsRefusal o.link (bankElements b) = none) (hlist : ¬ s.freePlacesForRecall b < 1)
    (hjobs : ¬ Config.jobPlaces ≤ s.jobsBesideRecall b) :
    s.serveRecall o bank register lead =
      ((s.useElements o.link (bankElements b)).insertRecall (s.dueField lead.toNat) (.link o.link o.tag) b r).accept o
        (.due (s.dueField lead.toNat)) := by
  simp only [State.serveRecall, hb, hpass, if_neg hlist, if_neg hjobs, State.scheduleRecall]
  refine State.settle_up _ _ ?_
  rw [State.accept, State.link_send_same, Link.place_up]
  exact (supersede_up ..).trans ((State.setClaims_up ..).trans hup)

theorem execRecall_accepted {s : State} {l : LinkIx} {q : QueueKind} {tag bank register lead : Byte} {b : BankIx}
    {r : Nat} (ho : s.offer = some ⟨l, q, tag, .recallEffect bank register lead⟩)
    (hb : s.bankRegister bank register = .ok (b, r))
    (hverdict : s.verdict ⟨l, q, tag, .recallEffect bank register lead⟩ = none) :
    exec .recallEffect s = .next
      ((((s.takeRequest ⟨l, q, tag, .recallEffect bank register lead⟩).useElements l (bankElements b)).insertRecall
        (s.dueField lead.toNat) (.link l tag) b r).accept ⟨l, q, tag, .recallEffect bank register lead⟩
        (.due (s.dueField lead.toNat))) := by
  obtain ⟨hpass, hlist, hjobs⟩ := recallVerdict_none hb hverdict
  obtain ⟨-, -, hup⟩ := State.offer_spec ho
  have hserve := serveRecall_accepted (s := s.takeRequest ⟨l, q, tag, .recallEffect bank register lead⟩)
    (o := ⟨l, q, tag, .recallEffect bank register lead⟩) (lead := lead) ((State.takeRequest_up ..).trans hup) hb hpass
    hlist hjobs
  simp only [exec, execRecall, ho]
  exact congrArg _ hserve

section
variable {s u : State} {o : Offer} {due : FieldNo} {b : BankIx} {r : Nat}
  (h : RecallQueued ((s.takeRequest o).useElements o.link (bankElements b)) u due (.link o.link o.tag) b r)
include h

/-- What an accepted RECALL changes besides its link's queue. -/
theorem RecallQueued.served (info : Accepted) : u.accept o info =
    { s with
      pointer := o.link, schedule := (u.accept o info).schedule, nextSet := s.nextSet + 1
      claims := (u.accept o info).claims, banks := (u.accept o info).banks, links := (u.accept o info).links
      engine := (u.accept o info).engine } := by
  rw [h.frame]
  rfl

theorem RecallQueued.claims (info : Accepted) :
    (u.accept o info).claims = usedClaims o.link (bankElements b) s.claims := by
  rw [h.frame]
  rfl

/-- The record of the recall's bank leaves staging, and its lever follows the claims (R40, R166). -/
theorem RecallQueued.bank (info : Accepted) (c : BankIx) : (u.accept o info).bank c =
    if c = b then
      { (if claimHolder (s.claim (transElement b)) = some o.link then s.bank b else (s.bank b).clearLever) with
        staging := none }
    else s.bank c := by
  have hbank : (u.accept o info).bank c =
      pick (upd ((s.takeRequest o).useElements o.link (bankElements b)).banks b fun k =>
        { k with staging := none }) c :=
    congrArg (pick · c) h.banks
  have hlever := bank_useElements (s.takeRequest o) o.link b
  rw [hbank, pick_upd]
  split
  · have hown := (hlever b).trans (if_pos rfl)
    exact congrArg (fun k : Bank => { k with staging := none }) hown
  · rename_i hc
    exact (hlever c).trans (if_neg hc)

/-- The reports of its claims, the NOTICE of the older recall and the ACCEPT are queued in this order (R88, R109). -/
theorem RecallQueued.answered (info : Accepted) (l : LinkIx) :
    ((s.takeRequest o).link l).QueuesAll s.now
      (claimReportsFor s.claims (usedClaims o.link (bankElements b) s.claims) ++
        (s.noticesTo l .superseded (s.schedule.filter (Entry.isRecallOf b)) ++
          if l = o.link then [.accept o.tag o.body.code info] else [])) ((u.accept o info).link l) := by
  have hclaims := State.setClaims_queues (s.takeRequest o) (usedClaims o.link (bankElements b) s.claims) l
  have hup : (((s.takeRequest o).useElements o.link (bankElements b)).link l).up = (s.link l).up :=
    (State.setClaims_up ..).trans (State.takeRequest_up ..)
  have hnotices := h.told l
  rw [noticesTo_congr hup] at hnotices
  have hanswer := send_queuesAll u o.link (.accept o.tag o.body.code info) l
  have hnow : u.now = s.now := by
    rw [h.frame]
    rfl
  rw [hnow] at hanswer
  exact hclaims.append (hnotices.append hanswer)

end

/-- Settles O4: `insertRecall_queued` on the state with the claims used, and the ACCEPT. -/
theorem acceptedRecallIsQueued : Obligations.AcceptedRecallIsQueued := by
  rintro s ⟨l, q, tag, body⟩ bank register lead b r hpaired ho rfl hb hverdict
  obtain ⟨hbank, hregister⟩ := bankRegister_named hb
  have hqueued := insertRecall_queued
    (paired_useElements (s := s.takeRequest ⟨l, q, tag, .recallEffect bank register lead⟩) hpaired l (bankElements b))
    (s.dueField lead.toNat) (.link l tag) b r
  have hexec := execRecall_accepted ho hb hverdict
  generalize State.insertRecall _ (s.dueField lead.toNat) (.link l tag) b r = u at hqueued hexec
  have htold := hqueued.answered (.due (s.dueField lead.toNat))
  have hclaims := hqueued.claims (.due (s.dueField lead.toNat))
  refine ⟨_, hexec, hqueued.served _, hqueued.schedule, hqueued.jobs, hqueued.access, hqueued.first, hclaims,
    hqueued.bank _, fun e he hrecall p named horigin hup => ?_, hbank, hregister, bankElements_number b,
    fun m => hclaims.symm ▸ htold m⟩
  have hnotice := notice_mem_noticesTo (List.mem_filter.mpr ⟨he, hrecall⟩) horigin hup .superseded
  rw [bank_of_isRecallOf hrecall] at hnotice
  exact notice_mem_outgoing (htold p) ((State.takeRequest_up ..).trans hup)
    (List.mem_append_right _ (List.mem_append_left _ hnotice))

end Sys2Proof.Schedule
end

section
/-! The judgement of an element (R98), and the requests on one element: CLAIM, RELEASE, BREAK (R102 to R104). -/

open Sys2Proof Sys2Proof.Machine Sys2Proof.TransitionController Sys2Proof.TransitionArithmetic Sys2Proof.Schedule

namespace Sys2Proof.ControlClaims

/-! ### The judgement of an element (R98) -/

section
variable {s : State} {p : LinkIx} {e : ElemIx}

theorem claimRefusal_outsider (h : s.member p e = false) : s.claimRefusal p e = some (.noGroup, none) := by
  simp [State.claimRefusal, h]

theorem claimRefusal_empty (hmember : s.member p e = true) (hc : s.claim e = none) : s.claimRefusal p e = none := by
  simp [State.claimRefusal, hmember, hc]

/-- An entry that another link holds: a LOCK stands, a TOUCH stands until it is TOUCH_HOLD fields old (R98). -/
theorem claimRefusal_held (hmember : s.member p e = true) {c : Claim} (hc : s.claim e = some c) :
    s.claimRefusal p e =
      if c.holder = p then none
      else if c.lock = true then some (.locked, some c.holder)
      else if s.touchHold ≤ c.age then none
      else some (.held, some c.holder) := by
  simp [State.claimRefusal, hmember, hc]

theorem usedClaim_own {c : Claim} (h : c.holder = p) : usedClaim p (some c) = { c with age := 0 } := if_pos h

/-- Use takes an element over from another link as a TOUCH (R98). -/
theorem usedClaim_taken {c : Claim} (h : c.holder ≠ p) :
    usedClaim p (some c) = { holder := p, lock := false, age := 0, orphaned := false } := if_neg h

end

/-- Settles O47: the rows of the table by `claimRefusal_held`, what use leaves by the laws of `usedClaim`. -/
theorem elementsAreJudgedByTheTable : Obligations.ElementsAreJudgedByTheTable := by
  intro s p e
  refine ⟨claimRefusal_outsider, fun hmember => ⟨fun hc => ⟨claimRefusal_empty hmember hc, ?_⟩, fun c hc => ?_⟩,
    fun hhold hmember htouch => ?_⟩
  · rw [hc]
    rfl
  · rw [claimRefusal_held hmember hc, hc]
    refine ⟨fun hown => ⟨if_pos hown, usedClaim_own hown⟩, fun hother hlock => ?_, fun hother hlock hyoung => ?_,
      fun hother hlock hold => ⟨?_, usedClaim_taken hother⟩⟩
    · simp [hother, hlock]
    · simp [hother, hlock, hyoung]
    · simp [hother, hlock, hold]
  · cases hc : s.claim e with
    | none => exact claimRefusal_empty hmember hc
    | some c => simp [claimRefusal_held hmember hc, htouch c hc, hhold]

/-! ### Requests on one element (R102 to R104) -/

/-- The state that an accepted request on one element leaves: its entry written, the ACCEPT queued (R131). -/
def elementServed (s : State) (o : Offer) (e : ElemIx) (c : Option Claim) : State :=
  ((s.takeRequest o).setClaim e c).accept o (.element e)

theorem elementOf_number {s : State} {number : Byte} {e : ElemIx} (h : s.elementOf number = .ok e) :
    e.val = number.toNat := by
  unfold State.elementOf at h
  split at h
  · split at h
    · split at h
      · cases h
        rfl
      · cases h
    · cases h
      rfl
  · cases h

/-- A BREAK passes on an orphaned LOCK alone, and for a member of its element's group (R104). -/
theorem breakVerdict_none {s : State} {l : LinkIx} {e : ElemIx} (h : s.breakVerdict l e = none) :
    s.member l e = true ∧ ∃ c, s.claim e = some c ∧ c.lock = true ∧ c.orphaned = true := by
  unfold State.breakVerdict at h
  split at h
  · cases h
  · rename_i hmember
    refine ⟨by simpa using hmember, ?_⟩
    cases hc : s.claim e with
    | none => simp [hc] at h
    | some c =>
      simp only [hc] at h
      cases hlock : c.lock with
      | false => simp [hlock] at h
      | true =>
        cases horphaned : c.orphaned with
        | false => simp [hlock, horphaned] at h
        | true => exact ⟨c, rfl, hlock, horphaned⟩

section
variable {s : State} {l : LinkIx} {q : QueueKind} {tag number : Byte} {e : ElemIx}

theorem execClaim_accepted (ho : s.offer = some ⟨l, q, tag, .claim number⟩) (he : s.elementOf number = .ok e)
    (hverdict : s.verdict ⟨l, q, tag, .claim number⟩ = none) :
    exec .claim s = .next (elementServed s ⟨l, q, tag, .claim number⟩ e (some (lockFor l))) := by
  obtain ⟨-, -, hup⟩ := State.offer_spec ho
  have hpass : s.claimRefusal l e = none := by simpa only [State.verdict, he] using hverdict
  simp only [exec, execClaim, ho, State.serveClaim, State.takeRequest_elementOf, he, State.takeRequest_claimRefusal, hpass]
  refine congrArg _ (State.settle_up _ _ ?_)
  rw [State.accept, State.link_send_same, Link.place_up, State.setClaim, State.setClaims_up]
  exact (State.takeRequest_up ..).trans hup

theorem execRelease_accepted (ho : s.offer = some ⟨l, q, tag, .release number⟩) (he : s.elementOf number = .ok e)
    (hverdict : s.verdict ⟨l, q, tag, .release number⟩ = none) :
    exec .release s = .next (elementServed s ⟨l, q, tag, .release number⟩ e none) := by
  have hholder : claimHolder (s.claim e) = some l := by
    simp only [State.verdict, he] at hverdict
    exact not_not.mp (refuseIf_none hverdict)
  simp only [exec, execRelease, ho, State.serveRelease, State.takeRequest_elementOf, he, State.takeRequest_claim, hholder,
    if_true]
  rfl

theorem execBreak_accepted (ho : s.offer = some ⟨l, q, tag, .breakLock number⟩) (he : s.elementOf number = .ok e)
    (hverdict : s.verdict ⟨l, q, tag, .breakLock number⟩ = none) :
    exec .breakLock s = .next (elementServed s ⟨l, q, tag, .breakLock number⟩ e none) := by
  obtain ⟨hmember, c, hc, hlock, horphaned⟩ := breakVerdict_none (l := l) (e := e) (s := s)
    (by simpa only [State.verdict, he] using hverdict)
  simp only [exec, execBreakLock, ho, State.serveBreak, State.takeRequest_elementOf, he, State.takeRequest_member,
    hmember, State.takeRequest_claim, hc, hlock, horphaned, Bool.not_true, Bool.false_eq_true, if_false]
  rfl

end

section
variable (s : State) (o : Offer) (e : ElemIx) (c : Option Claim)

theorem elementServed_claim : (elementServed s o e c).claim e = c := pick_upd_same ..

theorem elementServed_claim_other {f : ElemIx} (h : f ≠ e) : (elementServed s o e c).claim f = s.claim f :=
  pick_upd_other _ h _

/-- The report of the change goes out before the ACCEPT (R109; log 8). -/
theorem elementServed_queues (l : LinkIx) :
    ((s.takeRequest o).link l).QueuesAll s.now
      (claimReportsFor s.claims (elementServed s o e c).claims ++
        if l = o.link then [.accept o.tag o.body.code (.element e)] else [])
      ((elementServed s o e c).link l) :=
  (State.setClaims_queues (s.takeRequest o) _ l).append
    (send_queuesAll ((s.takeRequest o).setClaim e c) o.link (.accept o.tag o.body.code (.element e)) l)

end

/-- Settles O6: each of the three requests leaves `elementServed`, whose laws are the clauses. -/
theorem claimReleaseAndBreakWriteTheirElement : Obligations.ClaimReleaseAndBreakWriteTheirElement := by
  rintro s ⟨l, q, tag, body⟩ number e c ho he hverdict hbody
  have hexec : exec body.command s = .next (elementServed s ⟨l, q, tag, body⟩ e c) := by
    obtain ⟨rfl, rfl⟩ | ⟨rfl, rfl⟩ | ⟨rfl, rfl⟩ := hbody
    · exact execClaim_accepted ho he hverdict
    · exact execRelease_accepted ho he hverdict
    · exact execBreak_accepted ho he hverdict
  exact ⟨_, hexec, rfl, elementServed_claim .., fun f hf => elementServed_claim_other _ _ _ _ hf,
    setClaims_leversFollow (s.takeRequest ⟨l, q, tag, body⟩) _, elementOf_number he,
    elementServed_queues s ⟨l, q, tag, body⟩ e c⟩

end Sys2Proof.ControlClaims
end

section
/-! The queries of a bank and of the claims (R109, R121, R136), the accepted STORE and SAVE-CONFIG (R95, R130, R161), and
PRESENT with LINK_UP (R106, R112). -/

open Sys2Proof Sys2Proof.Machine Sys2Proof.TransitionController Sys2Proof.TransitionArithmetic Sys2Proof.Schedule

namespace Sys2Proof.ControlClaims

/-! ### QUERY BANK and QUERY CLAIMS (R121, R136) -/

/-- A frame sent to the link that asks, after its request has left the queue. -/
def replied (s : State) (o : Offer) (f : TxFrame) : State := (s.takeRequest o).send o.link f

theorem replied_other (s : State) (o : Offer) (f : TxFrame) {l : LinkIx} (h : l ≠ o.link) :
    (replied s o f).link l = s.link l :=
  (State.link_send_other _ h _).trans (State.link_takeRequest_other s h)

theorem replied_queues (s : State) (o : Offer) (f : TxFrame) :
    ((s.takeRequest o).link o.link).Queues s.now f ((replied s o f).link o.link) := by
  rw [replied, State.link_send_same]
  exact Link.place_queues ..

theorem execQueryBank_served {s : State} {l : LinkIx} {q : QueueKind} {tag argument : Byte} {b : BankIx}
    (ho : s.offer = some ⟨l, q, tag, .query 1 argument⟩) (hb : s.queryBankOf argument = .ok b) :
    exec .queryBank s = .next (replied s ⟨l, q, tag, .query 1 argument⟩
      (.bankState b (s.bank b).publishedFor (s.published b))) := by
  have hserve := queryOf_eq ho fun t o a => t.serveQueryBank o a
  simp only [State.serveQueryBank, State.takeRequest_queryBankOf, hb] at hserve
  exact congrArg Host.Outcome.next hserve

theorem execQueryClaims_served {s : State} {l : LinkIx} {q : QueueKind} {tag argument : Byte} {subject : Option BankIx}
    (ho : s.offer = some ⟨l, q, tag, .query 2 argument⟩) (hq : s.claimSubject argument = .ok subject) :
    exec .queryClaims s = .next (replied s ⟨l, q, tag, .query 2 argument⟩ (claimReport s.claims subject)) := by
  have hserve := queryOf_eq ho fun t o a => t.serveQueryClaims o a
  simp only [State.serveQueryClaims, State.takeRequest_claimSubject, hq] at hserve
  exact congrArg Host.Outcome.next hserve

/-- A report replaces the frames of its own report place (R120, R121). -/
theorem replaces_iff {report : TxFrame} (h : (reportPlace report).isSome = true) (f : TxFrame) :
    report.replaces f = true ↔ reportPlace f = reportPlace report := by
  simp [TxFrame.replaces_eq, h]

/-- Settles O12: by the subject; what the link has to send is by `replied_queues`. -/
theorem bankAndClaimQueriesTakeTheirReportPlace : Obligations.BankAndClaimQueriesTakeTheirReportPlace := by
  rintro s ⟨l, q, tag, body⟩ subject argument report ho rfl hreport
  obtain ⟨hexec, hplace⟩ : exec (Body.query subject argument).command s =
      .next (replied s ⟨l, q, tag, .query subject argument⟩ report) ∧ (reportPlace report).isSome = true := by
    obtain ⟨b, rfl, hb, rfl⟩ | ⟨subject, rfl, hsubject, rfl⟩ := hreport
    · exact ⟨execQueryBank_served ho hb, rfl⟩
    · exact ⟨execQueryClaims_served ho hsubject, rfl⟩
  exact ⟨_, _, hexec, rfl, fun m hm => replied_other _ _ _ hm, rfl, replied_queues .., replaces_iff hplace⟩

/-! ### STORE and SAVE-CONFIG (R95, R130, R161) -/

theorem verdict_store {s : State} {l : LinkIx} {q : QueueKind} {tag bank register : Byte} {b : BankIx} {r : Nat}
    (hb : s.bankRegister bank register = .ok (b, r)) (h : s.verdict ⟨l, q, tag, .store bank register⟩ = none) :
    s.member l (transElement b) = true ∧ ¬ Config.jobPlaces ≤ s.engine.jobs.length := by
  simp only [State.verdict, hb] at h
  obtain ⟨hgroup, hroom⟩ := orElse_none h
  exact ⟨by simpa using refuseIf_none hgroup, refuseIf_none hroom⟩

theorem verdict_saveConfig {s : State} {l : LinkIx} {q : QueueKind} {tag : Byte}
    (h : s.verdict ⟨l, q, tag, .saveConfig⟩ = none) :
    s.elementsRefusal l [systemElement] = none ∧ ¬ Config.jobPlaces ≤ s.engine.jobs.length := by
  simp only [State.verdict] at h
  obtain ⟨hpass, hroom⟩ := orElse_none h
  exact ⟨hpass, refuseIf_none hroom⟩

theorem execStore_accepted {s : State} {l : LinkIx} {q : QueueKind} {tag bank register : Byte} {b : BankIx} {r : Nat}
    (ho : s.offer = some ⟨l, q, tag, .store bank register⟩) (hb : s.bankRegister bank register = .ok (b, r))
    (hverdict : s.verdict ⟨l, q, tag, .store bank register⟩ = none) :
    exec .store s = .next (((s.takeRequest ⟨l, q, tag, .store bank register⟩).queueJob
      (.store l tag b r (s.published b).snapshot)).accept ⟨l, q, tag, .store bank register⟩ (.register r)) := by
  obtain ⟨hmember, hroom⟩ := verdict_store hb hverdict
  have hplaces : ¬ Config.jobPlaces ≤ (s.takeRequest ⟨l, q, tag, .store bank register⟩).engine.jobs.length := hroom
  simp only [exec, execStore, ho, State.serveStore, State.takeRequest_bankRegister, hb, State.takeRequest_member,
    hmember, Bool.not_true, Bool.false_eq_true, if_false, if_neg hplaces, State.takeRequest_published]

theorem execSaveConfig_accepted {s : State} {l : LinkIx} {q : QueueKind} {tag : Byte}
    (ho : s.offer = some ⟨l, q, tag, .saveConfig⟩) (hverdict : s.verdict ⟨l, q, tag, .saveConfig⟩ = none) :
    exec .saveConfig s = .next ((((s.takeRequest ⟨l, q, tag, .saveConfig⟩).useElements l [systemElement]).queueJob
      (.save l tag)).accept ⟨l, q, tag, .saveConfig⟩ .plain) := by
  obtain ⟨hpass, hroom⟩ := verdict_saveConfig hverdict
  obtain ⟨-, -, hup⟩ := State.offer_spec ho
  have hplaces : ¬ Config.jobPlaces ≤ (s.takeRequest ⟨l, q, tag, .saveConfig⟩).engine.jobs.length := hroom
  simp only [exec, execSaveConfig, ho, State.serveSave, State.takeRequest_elementsRefusal, hpass, if_neg hplaces]
  refine congrArg _ (State.settle_up _ _ ?_)
  rw [State.accept, State.link_send_same, Link.place_up]
  exact (State.setClaims_up (s.takeRequest ⟨l, q, tag, .saveConfig⟩) _ l).trans ((State.takeRequest_up ..).trans hup)

/-- A job that finds the queue empty and the port idle is active at once (R161). -/
theorem enqueue_firstAccess {g : Engine} (h : g = { jobs := [], stage := none, port := none }) (now : Micros)
    (items : Vector (BitVec 16) 88) (j : Job) : (g.enqueue now items j).FirstAccess now items := by
  subst h
  exact activate_firstAccess rfl rfl now items

/-- A job that joins a busy engine changes its queue alone (R161). -/
theorem enqueue_waits {g : Engine} (h : g.stage.isSome = true ∨ g.port.isSome = true) (now : Micros)
    (items : Vector (BitVec 16) 88) (j : Job) :
    g.enqueue now items j = { g with jobs := (g.enqueue now items j).jobs } := by
  rw [Engine.enqueue_busy g now items j h]

/-- A change of the Claim Table that leaves the holders of the TRANS elements leaves every bank (R40, R100). -/
theorem setClaims_banks_same {s : State} {claims : Vector (Option Claim) 25}
    (h : ∀ b, claimHolder (pick claims (transElement b)) = claimHolder (s.claim (transElement b))) :
    (s.setClaims claims).banks = s.banks :=
  table_ext fun b => (s.bank_setClaims claims b).trans (if_pos (h b).symm)

theorem useSystem_banks (s : State) (l : LinkIx) : (s.useElements l [systemElement]).banks = s.banks :=
  setClaims_banks_same fun b => congrArg claimHolder (usedSystem_trans l s.claims b)

/-- What a SAVE-CONFIG changes: the engine, the touch of SYSTEM, and what the links have to send. -/
theorem saveServed_frame (s : State) (o : Offer) (j : Job) (info : Accepted) :
    (((s.takeRequest o).useElements o.link [systemElement]).queueJob j).accept o info =
      { s with
        pointer := o.link
        engine := s.engine.enqueue s.now s.items j
        claims := usedClaims o.link [systemElement] s.claims
        links := ((((s.takeRequest o).useElements o.link [systemElement]).queueJob j).accept o info).links } := by
  have hbanks := useSystem_banks (s.takeRequest o) o.link
  have hframe : (((s.takeRequest o).useElements o.link [systemElement]).queueJob j).accept o info =
      { s with
        pointer := o.link
        engine := s.engine.enqueue s.now s.items j
        claims := usedClaims o.link [systemElement] s.claims
        banks := ((s.takeRequest o).useElements o.link [systemElement]).banks
        links := ((((s.takeRequest o).useElements o.link [systemElement]).queueJob j).accept o info).links } := rfl
  rw [hbanks] at hframe
  exact hframe

/-- The report of the touch goes out before the ACCEPT (R109; log 8). -/
theorem saveServed_queues (s : State) (o : Offer) (j : Job) (info : Accepted) (l : LinkIx) :
    ((s.takeRequest o).link l).QueuesAll s.now
      (claimReportsFor s.claims (usedClaims o.link [systemElement] s.claims) ++
        if l = o.link then [.accept o.tag o.body.code info] else [])
      (((((s.takeRequest o).useElements o.link [systemElement]).queueJob j).accept o info).link l) :=
  (State.setClaims_queues (s.takeRequest o) _ l).append
    (send_queuesAll (((s.takeRequest o).useElements o.link [systemElement]).queueJob j) o.link
      (.accept o.tag o.body.code info) l)

/-- Settles O7: the job by the laws of `Engine.enqueue`; the links after a STORE are those of `replied`, the touch and the
reports of a SAVE-CONFIG by the laws of a change of claims. -/
theorem acceptedStoreAndSaveQueueAJob : Obligations.AcceptedStoreAndSaveQueueAJob := by
  rintro s ⟨l, q, tag, body⟩ ho hverdict
  refine ⟨?_, ?_⟩
  · rintro bank register b r rfl hb
    obtain ⟨hbank, hregister⟩ := bankRegister_named hb
    exact ⟨_, execStore_accepted ho hb hverdict, rfl, enqueue_jobs .., hbank, hregister,
      fun hidle => enqueue_firstAccess hidle .., fun hbusy => enqueue_waits hbusy ..,
      fun m hm => replied_other s ⟨l, q, tag, .store bank register⟩ _ hm,
      replied_queues s ⟨l, q, tag, .store bank register⟩ _⟩
  · rintro rfl
    exact ⟨_, execSaveConfig_accepted ho hverdict,
      saveServed_frame s ⟨l, q, tag, .saveConfig⟩ (.save l tag) .plain, enqueue_jobs ..,
      fun hidle => enqueue_firstAccess hidle .., fun hbusy => enqueue_waits hbusy .., rfl,
      saveServed_queues s ⟨l, q, tag, .saveConfig⟩ (.save l tag) .plain⟩

/-! ### PRESENT and LINK_UP (R106, R112) -/

theorem pick_restoredClaims (l : LinkIx) (claims : Vector (Option Claim) 25) (e : ElemIx) :
    pick (restoredClaims l claims) e =
      (pick claims e).map fun c => if c.holder = l then { c with orphaned := false } else c := by
  rw [restoredClaims, pick_tab]
  cases pick claims e with
  | none => rfl
  | some c => by_cases hc : c.holder = l <;> simp [hc]

/-- The return of a link changes no holder (R106). -/
theorem restoredClaims_holder (l : LinkIx) (claims : Vector (Option Claim) 25) (e : ElemIx) :
    claimHolder (pick (restoredClaims l claims) e) = claimHolder (pick claims e) := by
  rw [pick_restoredClaims]
  cases pick claims e with
  | none => rfl
  | some c => by_cases hc : c.holder = l <;> simp [claimHolder, hc]

/-- The return of a link with no orphaned lock changes nothing that is reported (R109). -/
theorem restoredClaims_face {l : LinkIx} {claims : Vector (Option Claim) 25} {e : ElemIx}
    (h : ∀ c, pick claims e = some c → c.holder = l → c.orphaned = false) :
    claimFace (pick (restoredClaims l claims) e) = claimFace (pick claims e) := by
  rw [pick_restoredClaims]
  cases hc : pick claims e with
  | none => rfl
  | some c =>
    by_cases hl : c.holder = l
    · simp [claimFace, hl, h c hc hl]
    · simp [hl]

/-- A lock restored is a change that is reported (R106, R109). -/
theorem restoredClaims_face_of_orphaned {l : LinkIx} {claims : Vector (Option Claim) 25} {e : ElemIx} {c : Claim}
    (hc : pick claims e = some c) (hl : c.holder = l) (horphaned : c.orphaned = true) :
    claimFace (pick claims e) ≠ claimFace (pick (restoredClaims l claims) e) := by
  simp [pick_restoredClaims, hc, hl, claimFace, horphaned]

/-- A link that has just gone UP. -/
def broughtUp (k : Link) : Link := { k with up := true, since := none }

/-- The state at the moment a link goes UP, before its locks are restored. -/
def linkBroughtUp (s : State) (l : LinkIx) (moment : Micros) : State := (s.reach moment).modLink l broughtUp

theorem linkBroughtUp_link (s : State) (l : LinkIx) (moment : Micros) (k : LinkIx) :
    (linkBroughtUp s l moment).link k = if k = l then broughtUp (s.link l) else s.link k := pick_upd ..

theorem execLinkUp_taken {s : State} {l : LinkIx} {m : Nat} (hup : (s.link l).up = false)
    (hpresent : (s.link l).present = true) (hsince : (s.link l).since = some m) :
    exec (.linkUp l) s =
      .next ((linkBroughtUp s l (m + 10000)).setClaims (restoredClaims l s.claims)) := by
  have hmoment : (s.link l).debounced true = some (m + 10000) := by
    simp [Link.debounced, hup, hpresent, hsince, Config.debounceTime]
  simp only [exec, execLinkUp, hmoment]
  rfl

/-- The return of a link touches no bank, for it changes no holder (R40, R106). -/
theorem linkUp_frame (s : State) (l : LinkIx) (moment : Micros) :
    (linkBroughtUp s l moment).setClaims (restoredClaims l s.claims) =
      { s with
        now := max s.now moment
        claims := restoredClaims l s.claims
        links := ((linkBroughtUp s l moment).setClaims (restoredClaims l s.claims)).links } := by
  have hbanks : ((linkBroughtUp s l moment).setClaims (restoredClaims l s.claims)).banks = s.banks :=
    setClaims_banks_same fun b => restoredClaims_holder l s.claims (transElement b)
  have hframe : (linkBroughtUp s l moment).setClaims (restoredClaims l s.claims) =
      { s with
        now := max s.now moment
        claims := restoredClaims l s.claims
        banks := ((linkBroughtUp s l moment).setClaims (restoredClaims l s.claims)).banks
        links := ((linkBroughtUp s l moment).setClaims (restoredClaims l s.claims)).links } := rfl
  rw [hbanks] at hframe
  exact hframe

theorem execPresentChange_link (s : State) (l : LinkIx) (level : Bool) (dt : Nat) : ∃ t,
    exec (.presentChange l level dt) s = .next t ∧
    t = { s with now := s.now + dt, links := t.links } ∧ (∀ m, m ≠ l → t.link m = s.link m) ∧
    t.link l = if level = (s.link l).present then s.link l
      else { s.link l with present := level, since := if level = (s.link l).up then none else some (s.now + dt) } :=
  ⟨_, rfl, rfl, fun _ hm => State.link_modLink_other _ hm _, State.link_modLink_same ..⟩

/-- Settles O41: PRESENT by its definition; LINK_UP by the laws of `restoredClaims` and of a change of claims. -/
theorem presentBringsALinkUpWithItsLocks : Obligations.PresentBringsALinkUpWithItsLocks := by
  refine ⟨execPresentChange_link, fun s l m hup hpresent hsince => ?_⟩
  refine ⟨_, execLinkUp_taken hup hpresent hsince, linkUp_frame s l (m + 10000), fun e => pick_restoredClaims ..,
    fun k => ?_, fun hnone => ?_, fun e c hc hl horphaned k hk => ?_⟩
  · have hqueues := State.setClaims_queues (linkBroughtUp s l (m + 10000)) (restoredClaims l s.claims) k
    rw [linkBroughtUp_link] at hqueues
    exact hqueues
  · have hlinks := setClaims_links_same (s := linkBroughtUp s l (m + 10000)) (claims := restoredClaims l s.claims)
      fun e => restoredClaims_face (hnone e)
    have hlink (k : LinkIx) := (congrArg (pick · k) hlinks).trans (linkBroughtUp_link s l (m + 10000) k)
    exact ⟨(hlink l).trans (if_pos rfl), fun k hk => (hlink k).trans (if_neg hk)⟩
  · rw [State.setClaims_up] at hk
    rw [State.link_setClaims]
    exact mem_foldl_place hk (claimReports_pairwise ..) _
      (mem_claimReports (restoredClaims_face_of_orphaned hc hl horphaned))

end Sys2Proof.ControlClaims
end

section
/-! What a panel link sends (R115, R119, R122, R139): the bytes of every frame, field by field, and what begins when a
frame ends. -/

open Sys2Proof Sys2Proof.Machine Sys2Proof.TransitionController

namespace Sys2Proof.ControlClaims

/-! ### Layouts of lists (R139) -/

section
variable {α : Type} {encode : α → List Byte} {layout : Nat → α → List LayoutField} {n : Nat}
  (hlaid : ∀ x, LaidOut (encode x) n (layout 0 x)) (hwithin : ∀ x, ∀ f ∈ layout 0 x, f.offset + f.size ≤ n)
  (hshift : ∀ k m x, layout (k + m) x = (layout m x).map (shifted k))
include hwithin hshift

theorem head_flatMap_within {m : Nat} {fields : List LayoutField} (hfields : ∀ f ∈ fields, f.offset + f.size ≤ m)
    (xs : List α) : ∀ f ∈ fields ++ xs.zipIdx.flatMap fun x => layout (m + n * x.2) x.1,
      f.offset + f.size ≤ m + n * xs.length := by
  intro f hf
  obtain hf | hf := List.mem_append.mp hf
  · exact (hfields f hf).trans (Nat.le_add_right ..)
  · obtain ⟨⟨x, i⟩, hx, hf⟩ := List.mem_flatMap.mp hf
    have hi : i < xs.length := (List.mem_zipIdx' hx).1
    have hshifted := hshift (m + n * i) 0 x
    rw [Nat.add_zero] at hshifted
    rw [hshifted] at hf
    obtain ⟨g, hg, rfl⟩ := List.mem_map.mp hf
    calc m + n * i + g.offset + g.size ≤ m + (n * i + n) := by have := hwithin x g hg; omega
      _ ≤ m + n * xs.length := Nat.add_le_add_left (Nat.mul_le_mul_left n hi) m

include hlaid

/-- Records of one length, one after another. -/
theorem laidOut_flatMap (xs : List α) :
    LaidOut (xs.flatMap encode) (n * xs.length) (xs.zipIdx.flatMap fun x => layout (n * x.2) x.1) := by
  induction xs with
  | nil => exact ⟨rfl, by simp⟩
  | cons x xs ih =>
    have hwhole := laidOut_append (hlaid x) ih (hwithin x)
    have hfields : ((x :: xs).zipIdx.flatMap fun x => layout (n * x.2) x.1) =
        layout 0 x ++ (xs.zipIdx.flatMap fun x => layout (n * x.2) x.1).map (shifted n) := by
      rw [List.zipIdx_cons, List.zipIdx_succ, List.flatMap_cons, List.flatMap_map, List.map_flatMap]
      simp only [Nat.mul_zero, Nat.mul_succ, Nat.add_comm _ n, hshift]
    rw [hfields, List.flatMap_cons, List.length_cons, Nat.mul_succ, Nat.add_comm]
    exact hwhole

/-- Records of one length after a head. -/
theorem laidOut_head_flatMap {head : List Byte} {m : Nat} {fields : List LayoutField}
    (hhead : LaidOut head m fields) (hfields : ∀ f ∈ fields, f.offset + f.size ≤ m) (xs : List α) :
    LaidOut (head ++ xs.flatMap encode) (m + n * xs.length)
      (fields ++ xs.zipIdx.flatMap fun x => layout (m + n * x.2) x.1) := by
  have hwhole := laidOut_append hhead (laidOut_flatMap hlaid hwithin hshift xs) hfields
  rw [List.map_flatMap] at hwhole
  simpa only [hshift] using hwhole

end

/-! ### Flags of one byte (R139; spare bits: log 33) -/

theorem twoFlags_bits : ∀ a b : Bool,
    let v := flagBit 0 a + flagBit 1 b
    v % 2 = a.toNat % 2 ∧ v % 256 / 2 % 2 = b.toNat % 2 ∧ v % 256 / 4 % 64 = 0 := by decide

theorem threeFlags_bits : ∀ a b c : Bool,
    let v := flagBit 0 a + flagBit 1 b + flagBit 2 c
    v % 2 = a.toNat % 2 ∧ v % 256 / 2 % 2 = b.toNat % 2 ∧ v % 256 / 4 % 2 = c.toNat % 2 ∧ v % 256 / 8 % 32 = 0 := by
  decide

theorem fiveFlags_bits : ∀ a b c d e : Bool,
    let v := flagBit 0 a + flagBit 1 b + flagBit 2 c + flagBit 3 d + flagBit 4 e
    v % 2 = a.toNat % 2 ∧ v % 256 / 2 % 2 = b.toNat % 2 ∧ v % 256 / 4 % 2 = c.toNat % 2 ∧
      v % 256 / 8 % 2 = d.toNat % 2 ∧ v % 256 / 16 % 2 = e.toNat % 2 ∧ v % 256 / 32 % 8 = 0 := by decide

theorem sixFlags_bits : ∀ a b c d e f : Bool,
    let v := flagBit 0 a + flagBit 1 b + flagBit 2 c + flagBit 3 d + flagBit 4 e + flagBit 5 f
    v % 2 = a.toNat % 2 ∧ v % 256 / 2 % 2 = b.toNat % 2 ∧ v % 256 / 4 % 2 = c.toNat % 2 ∧
      v % 256 / 8 % 2 = d.toNat % 2 ∧ v % 256 / 16 % 2 = e.toNat % 2 ∧ v % 256 / 32 % 2 = f.toNat % 2 ∧
      v % 256 / 64 % 4 = 0 := by decide

theorem sevenFlags_bits : ∀ a b c d e f g : Bool,
    let v := flagBit 0 a + flagBit 1 b + flagBit 2 c + flagBit 3 d + flagBit 4 e + flagBit 5 f + flagBit 6 g
    v % 2 = a.toNat % 2 ∧ v % 256 / 2 % 2 = b.toNat % 2 ∧ v % 256 / 4 % 2 = c.toNat % 2 ∧
      v % 256 / 8 % 2 = d.toNat % 2 ∧ v % 256 / 16 % 2 = e.toNat % 2 ∧ v % 256 / 32 % 2 = f.toNat % 2 ∧
      v % 256 / 64 % 2 = g.toNat % 2 ∧ v % 256 / 128 % 2 = 0 := by decide

/-! ### ACCEPT (R131) -/

theorem flagBit_zero (b : Bool) : flagBit 0 b = b.toNat := by cases b <;> rfl

theorem keyAccept_laidOut (answered : Byte) (d : FieldNo) (f : KeyFields) :
    LaidOut (answered :: (Accepted.dueKey d f).bytes) 14
      (bytesField 0 1 answered.toNat :: (Accepted.dueKey d f).layout.2) := by
  refine ⟨by simp [Accepted.bytes, KeyFields.bytes], ?_⟩
  obtain ⟨hfill, hkey, hkind, hclip, hgain, hinverted, hspare⟩ := sixFlags_bits f.fill.isSome f.key.isSome f.kind.isSome
    f.clip.isSome f.gain.isSome f.invert.isSome
  have hinvert : f.invert.map (flagBit 0) = f.invert.map Bool.toNat := congrArg (f.invert.map ·) (funext flagBit_zero)
  simp only [Accepted.layout, List.forall_mem_cons, bytesField, bitsField]
  simp [Accepted.bytes, KeyFields.bytes, selected, valueAt, twoBytes, fourBytes, hfill, hkey, hkind, hclip, hgain,
    hinverted, hspare, hinvert]

theorem transAccept_laidOut (answered : Byte) (d : FieldNo) (f : TransFields) :
    LaidOut (answered :: (Accepted.dueTrans d f).bytes) 14
      (bytesField 0 1 answered.toNat :: (Accepted.dueTrans d f).layout.2) := by
  refine ⟨by simp [Accepted.bytes, TransFields.bytes], ?_⟩
  obtain ⟨hkind, hrate, hpattern, hdirection, hsoftness, hwidth, hcolour, hspare⟩ := sevenFlags_bits f.kind.isSome
    f.rate.isSome f.pattern.isSome f.direction.isSome f.softness.isSome f.borderWidth.isSome f.borderColour.isSome
  simp only [Accepted.layout, List.forall_mem_cons, bytesField, bitsField]
  simp [Accepted.bytes, TransFields.bytes, selected, valueAt, twoBytes, fourBytes, hkind, hrate, hpattern, hdirection,
    hsoftness, hwidth, hcolour, hspare]

theorem accept_laidOut (answered : Byte) (info : Accepted) :
    LaidOut (answered :: info.bytes) info.layout.1 (bytesField 0 1 answered.toNat :: info.layout.2) := by
  cases info with
  | dueKey d f => exact keyAccept_laidOut answered d f
  | dueTrans d f => exact transAccept_laidOut answered d f
  | due | element | count | item | register | plain =>
    simp [LaidOut, Accepted.bytes, Accepted.layout, bytesField, valueAt, twoBytes, fourBytes]

/-! ### BANK-STATE (R8, R135) -/

/-- The 20 bytes before the keyers. -/
def bankHead (b : BankIx) (n : FieldNo) (r : BankRecord) : List Byte :=
  bigEndian 4 n.toNat ++ bigEndian 1 (b.val + 1) ++ bigEndian 1 r.a.val ++ bigEndian 1 r.b.val ++
    bigEndian 1 (r.kind.code + 2 * r.direction.code + flagBit 3 r.flip + 16 * r.borderColour.code) ++
    bigEndian 1 r.pattern ++ bigEndian 2 r.rate ++ bigEndian 1 r.softness ++ bigEndian 1 r.borderWidth ++
    bigEndian 1 r.layers.toNat ++
    bigEndian 1 (r.phase.code + 4 * r.engagement.code + flagBit 5 (decide (r.sense = .inverted))) ++
    bigEndian 1 (flagBit 0 r.waiting + flagBit 1 r.aborted + flagBit 2 r.done) ++
    bigEndian 2 r.progress ++ bigEndian 2 r.remaining

/-- The fields of the 20 bytes before the keyers. -/
def bankHeadLayout (b : BankIx) (n : FieldNo) (r : BankRecord) : List LayoutField := (bankStateLayout b n r).take 24

theorem transitionCodes_bits (k : Kind) (d : Direction) (flip : Bool) (c : BorderColour) :
    let v := k.code + 2 * d.code + flagBit 3 flip + 16 * c.code
    v % 2 = k.code % 2 ∧ v % 256 / 2 % 4 = d.code % 4 ∧ v % 256 / 8 % 2 = flip.toNat % 2 ∧
      v % 256 / 16 % 2 = c.code % 2 ∧ v % 256 / 32 % 8 = 0 := by
  cases k <;> cases d <;> cases flip <;> cases c <;> decide

theorem stateCodes_bits (p : Phase) (e : Engagement) (inverted : Bool) :
    let v := p.code + 4 * e.code + flagBit 5 inverted
    v % 4 = p.code % 4 ∧ v % 256 / 4 % 8 = e.code % 8 ∧ v % 256 / 32 % 2 = inverted.toNat % 2 ∧
      v % 256 / 64 % 4 = 0 := by
  cases p <;> cases e <;> cases inverted <;> decide

theorem bankHead_laidOut (b : BankIx) (n : FieldNo) (r : BankRecord) :
    LaidOut (bankHead b n r) 20 (bankHeadLayout b n r) := by
  refine ⟨by simp [bankHead], ?_⟩
  obtain ⟨hkind, hdirection, hflip, hcolour, hspare⟩ := transitionCodes_bits r.kind r.direction r.flip r.borderColour
  obtain ⟨hphase, hengagement, hsense, hspareState⟩ := stateCodes_bits r.phase r.engagement (decide (r.sense = .inverted))
  obtain ⟨hwaiting, haborted, hdone, hspareFlags⟩ := threeFlags_bits r.waiting r.aborted r.done
  simp only [bankHeadLayout, bankStateLayout, List.cons_append, List.take_succ_cons, List.take_zero,
    List.forall_mem_cons, bytesField, bitsField]
  simp [bankHead, valueAt, twoBytes, fourBytes, hkind, hdirection, hflip, hcolour, hspare, hphase, hengagement, hsense,
    hspareState, hwaiting, haborted, hdone, hspareFlags]

theorem bankHeadLayout_within (b : BankIx) (n : FieldNo) (r : BankRecord) :
    ∀ f ∈ bankHeadLayout b n r, f.offset + f.size ≤ 20 := by
  simp [bankHeadLayout, bankStateLayout, bytesField, bitsField]

theorem keyerCodes_bits (t : KeyerType) (invert onAir : Bool) :
    let v := t.code + flagBit 1 invert + flagBit 2 onAir
    v % 2 = t.code % 2 ∧ v % 256 / 2 % 2 = invert.toNat % 2 ∧ v % 256 / 4 % 2 = onAir.toNat % 2 ∧
      v % 256 / 8 % 32 = 0 := by
  cases t <;> cases invert <;> cases onAir <;> decide

theorem keyer_laidOut (k : Keyer) : LaidOut k.bytes 7 (k.layout 0) := by
  refine ⟨by simp [Keyer.bytes], ?_⟩
  obtain ⟨hkind, hinvert, honAir, hspare⟩ := keyerCodes_bits k.kind k.invert k.onAir
  simp only [Keyer.layout, List.forall_mem_cons, bytesField, bitsField]
  simp [Keyer.bytes, valueAt, twoBytes, hkind, hinvert, honAir, hspare]

theorem keyer_layout_within (k : Keyer) : ∀ f ∈ k.layout 0, f.offset + f.size ≤ 7 := by
  simp [Keyer.layout, bytesField, bitsField]

theorem wait_eq (n x : FieldNo) : wait n x = fieldsAfter n x := by
  simp [wait, fieldsAfter, atLeast, Config.halfRange]

/-- Values of three bits each, the first the least significant, below the rest of a number. -/
def slots (rest : Nat) (ws : List Nat) : Nat := ws.foldr (fun w v => w % 8 + 8 * v) rest

theorem slots_cons (rest w : Nat) (ws : List Nat) : slots rest (w :: ws) = w % 8 + 8 * slots rest ws := rfl

theorem slots_rest_add (rest : Nat) (ws : List Nat) : slots rest ws = slots 0 ws + rest * 8 ^ ws.length := by
  induction ws with
  | nil => simp [slots]
  | cons w ws ih =>
    rw [slots_cons, slots_cons, ih, List.length_cons]
    ring

theorem slots_digit (rest : Nat) {ws : List Nat} {i : Nat} (h : i < ws.length) :
    slots rest ws / 8 ^ i % 8 = ws[i] % 8 := by
  induction ws generalizing i with
  | nil => exact absurd h (Nat.not_lt_zero i)
  | cons w ws ih =>
    rw [slots_cons]
    cases i with
    | zero =>
      simp only [List.getElem_cons_zero, pow_zero, Nat.div_one]
      omega
    | succ i =>
      have hnext : (w % 8 + 8 * slots rest ws) / 8 = slots rest ws := by omega
      rw [Nat.pow_succ', ← Nat.div_div_eq_div_mul, hnext]
      exact ih (Nat.lt_of_succ_lt_succ h)

theorem slots_rest (rest : Nat) (ws : List Nat) : slots rest ws / 8 ^ ws.length = rest := by
  induction ws with
  | nil => simp [slots]
  | cons w ws ih =>
    have hnext : (w % 8 + 8 * slots rest ws) / 8 = slots rest ws := by omega
    rw [slots_cons, List.length_cons, Nat.pow_succ', ← Nat.div_div_eq_div_mul, hnext, ih]

/-- Nine slots of three bits in the order of R8, and the dwell wait above them. -/
theorem readiness_eq_slots (n : FieldNo) (r : BankRecord) :
    r.readiness n = slots (fieldsAfter n r.dwellEnd % 32) (r.readyFields.map (fieldsAfter n)) := by
  have hlength : (r.readyFields.map (fieldsAfter n)).length = 9 := rfl
  rw [slots_rest_add, hlength, BankRecord.readiness, wait_eq, slots, List.foldr_map, List.foldr_map]
  simp only [wait_eq]
  rfl

theorem valueAt_four_of_lt {v : Nat} (h : v < 4294967296) : valueAt (bigEndian 4 v) 0 4 = v := by
  simp only [bigEndian_four, valueAt, List.drop_zero, List.take_succ_cons, List.take_zero, List.foldl_cons,
    List.foldl_nil, BitVec.toNat_ofNat]
  omega

/-- The fields of the last four bytes: nine slots of three bits, and the dwell wait. -/
def readinessLayout (n : FieldNo) (r : BankRecord) : List LayoutField :=
  [⟨0, 4, 0, 3, fieldsAfter n r.bReady⟩, ⟨0, 4, 27, 5, fieldsAfter n r.dwellEnd⟩] ++
  (indices 4).flatMap fun k => [⟨0, 4, 3 * (2 * k.val + 1), 3, fieldsAfter n (r.keyer k).fillReady⟩,
    ⟨0, 4, 3 * (2 * k.val + 2), 3, fieldsAfter n (r.keyer k).keyReady⟩]

theorem readyFields_keyer (r : BankRecord) : ∀ k : KeyerIx, r.readyFields[2 * k.val + 1]? = some (r.keyer k).fillReady ∧
    r.readyFields[2 * k.val + 2]? = some (r.keyer k).keyReady
  | 0 | 1 | 2 | 3 => ⟨rfl, rfl⟩

theorem readiness_slot (n : FieldNo) {r : BankRecord} {i : Nat} {x : FieldNo} (h : r.readyFields[i]? = some x) :
    r.readiness n / 2 ^ (3 * i) % 2 ^ 3 = fieldsAfter n x % 2 ^ 3 := by
  obtain ⟨hi, rfl⟩ := List.getElem?_eq_some_iff.mp h
  have hdigit := slots_digit (fieldsAfter n r.dwellEnd % 32) (ws := r.readyFields.map (fieldsAfter n))
    (i := i) (by rwa [List.length_map])
  rw [← readiness_eq_slots, List.getElem_map] at hdigit
  rwa [Nat.pow_mul]

theorem readiness_dwell (n : FieldNo) (r : BankRecord) : r.readiness n / 2 ^ 27 = fieldsAfter n r.dwellEnd % 32 := by
  have hrest := slots_rest (fieldsAfter n r.dwellEnd % 32) (r.readyFields.map (fieldsAfter n))
  have hlength : (r.readyFields.map (fieldsAfter n)).length = 9 := rfl
  rw [← readiness_eq_slots, hlength] at hrest
  exact hrest

theorem readiness_bound (n : FieldNo) (r : BankRecord) : r.readiness n < 4294967296 := by
  have hdwell := readiness_dwell n r
  omega

theorem readiness_laidOut (n : FieldNo) (r : BankRecord) :
    LaidOut (bigEndian 4 (r.readiness n)) 4 (readinessLayout n r) := by
  have hvalue := valueAt_four_of_lt (readiness_bound n r)
  refine ⟨by simp, fun f hf => ?_⟩
  simp only [readinessLayout, List.mem_append, List.mem_cons, List.not_mem_nil, or_false, List.mem_flatMap] at hf
  obtain (rfl | rfl) | ⟨k, -, rfl | rfl⟩ := hf <;> simp only [hvalue]
  · exact readiness_slot n (r := r) (i := 0) rfl
  · rw [readiness_dwell]
    exact Nat.mod_mod ..
  · exact readiness_slot n (readyFields_keyer r k).1
  · exact readiness_slot n (readyFields_keyer r k).2

theorem bankState_laidOut (b : BankIx) (n : FieldNo) (r : BankRecord) :
    LaidOut (bankStateBody b n r) 52 (bankStateLayout b n r) := by
  have hshift : ∀ k m (x : Keyer), x.layout (k + m) = (x.layout m).map (shifted k) := fun _ _ _ => rfl
  have hhead := bankHeadLayout_within b n r
  have hkeyers := laidOut_head_flatMap keyer_laidOut keyer_layout_within hshift (bankHead_laidOut b n r) hhead
    ((indices 4).map r.keyer)
  have hwhole := laidOut_append hkeyers (readiness_laidOut n r)
    (head_flatMap_within keyer_layout_within hshift hhead ((indices 4).map r.keyer))
  exact hwhole

/-! ### CLAIM-STATE, SCHEDULE-LIST and GPI-STATE (R91, R109, R178) -/

theorem claim_laidOut (x : ElemIx × Option Claim) : LaidOut (claimBytes x.1 x.2) 5 (claimLayout 0 x.1 x.2) := by
  obtain ⟨e, c⟩ := x
  cases c with
  | none =>
    simp [LaidOut, claimBytes, claimLayout, bytesField, bitsField, valueAt]
  | some c =>
    obtain ⟨hlock, horphaned, hspare⟩ := twoFlags_bits c.lock c.orphaned
    simp [LaidOut, claimBytes, claimLayout, bytesField, bitsField, valueAt, twoBytes, hlock, horphaned, hspare]

theorem claimLayout_within (x : ElemIx × Option Claim) : ∀ f ∈ claimLayout 0 x.1 x.2, f.offset + f.size ≤ 5 := by
  simp [claimLayout, bytesField, bitsField]

theorem claimState_laidOut (subject : Option BankIx) (entries : List (ElemIx × Option Claim)) :
    LaidOut (bigEndian 1 (bankNumber subject) ++ entries.flatMap fun e => claimBytes e.1 e.2) (1 + 5 * entries.length)
      (bytesField 0 1 ((subject.map fun b => b.val + 1).getD 0) ::
        entries.zipIdx.flatMap fun x => claimLayout (1 + 5 * x.2) x.1.1 x.1.2) := by
  have hhead : LaidOut (bigEndian 1 (bankNumber subject)) 1
      [bytesField 0 1 ((subject.map fun b => b.val + 1).getD 0)] := by
    cases subject <;> simp [LaidOut, bankNumber, bytesField, valueAt]
  exact laidOut_head_flatMap (layout := fun offset x => claimLayout offset x.1 x.2) claim_laidOut claimLayout_within
    (fun _ _ _ => rfl) hhead (by simp [bytesField]) entries

theorem action_code_lt (a : Action) : a.code < 16 := by cases a <;> simp [Action.code]

/-- The four bytes of a SCHEDULE-LIST entry as one number. -/
def entryWord (f : FieldNo) (e : Entry) : Nat :=
  (max (-2048) (e.due - f).toInt % 4096).toNat * 2 ^ 20 + e.origin.tag * 2 ^ 12 + e.action.code * 2 ^ 8 +
    e.bank.val * 2 ^ 6 + 32 * e.linked.isSome.toNat + 16 * e.action.isStaged.toNat + e.count.getD 15 % 16

theorem entry_bytes (f : FieldNo) (e : Entry) : e.bytes f = bigEndian 4 (entryWord f e) := by
  unfold Entry.bytes entryWord
  have htag : e.origin.tag = match e.origin with
      | .link _ t => t.toNat
      | .line _ => 0 := by cases e.origin <;> rfl
  have hstaged : e.action.isStaged = match e.action with
      | .recallEffect _ s => s
      | _ => false := by cases e.action <;> rfl
  rw [htag, hstaged]
  simp only [flagBit_eq]
  rfl

theorem tag_lt (o : Origin) : o.tag < 256 := by
  cases o with
  | link p t => exact t.isLt
  | line n => exact Nat.zero_lt_succ _

theorem entry_laidOut (f : FieldNo) (e : Entry) : LaidOut (e.bytes f) 4 (e.layout 0 f) := by
  have hoffset : (max (-2048) (e.due - f).toInt % 4096).toNat < 4096 := by omega
  have htag := tag_lt e.origin
  have hcode := action_code_lt e.action
  have hbank := e.bank.isLt
  have hlinked := Bool.toNat_le e.linked.isSome
  have hstaged := Bool.toNat_le e.action.isStaged
  have hvalue : valueAt (e.bytes f) 0 4 = entryWord f e := by
    rw [entry_bytes, valueAt_four_of_lt]
    simp only [entryWord]
    omega
  refine ⟨by simp [entry_bytes], ?_⟩
  simp only [Entry.layout, List.forall_mem_cons, hvalue, entryWord]
  generalize (max (-2048) (e.due - f).toInt % 4096).toNat = offset at *
  generalize e.count.getD 15 = count at *
  simp
  omega

theorem entry_layout_within (f : FieldNo) (e : Entry) : ∀ x ∈ e.layout 0 f, x.offset + x.size ≤ 4 := by
  simp [Entry.layout]

theorem scheduleList_laidOut (sequence reports : Nat) (f : FieldNo) (entries : List Entry) :
    LaidOut (bigEndian 1 (sequence * 16 + reports % 16) ++ bigEndian 4 f.toNat ++ entries.flatMap (Entry.bytes f))
      (5 + 4 * entries.length)
      (bitsField 0 4 4 sequence :: bitsField 0 0 4 reports :: bytesField 1 4 f.toNat ::
        entries.zipIdx.flatMap fun x => x.1.layout (5 + 4 * x.2) f) := by
  have hhead : LaidOut (bigEndian 1 (sequence * 16 + reports % 16) ++ bigEndian 4 f.toNat) 5
      [bitsField 0 4 4 sequence, bitsField 0 0 4 reports, bytesField 1 4 f.toNat] := by
    refine ⟨by simp, ?_⟩
    simp [bitsField, bytesField, valueAt, fourBytes]
    omega
  exact laidOut_head_flatMap (layout := fun offset e => Entry.layout offset f e) (entry_laidOut f)
    (entry_layout_within f) (fun _ _ _ => rfl) hhead (by simp [bitsField, bytesField]) entries

theorem gpiReport_laidOut (g : GpiReport) : LaidOut [g.byte] 1 (g.layout 0) := by
  obtain ⟨hout, hlevel, hpin, hedge, hdropped, hspare⟩ := fiveFlags_bits g.out g.level g.pin g.edge g.dropped
  simp [LaidOut, GpiReport.byte, GpiReport.layout, bitsField, valueAt, hout, hlevel, hpin, hedge, hdropped, hspare]

theorem gpiReport_layout_within (g : GpiReport) : ∀ f ∈ g.layout 0, f.offset + f.size ≤ 1 := by
  simp [GpiReport.layout, bitsField]

theorem gpiState_laidOut (lines : List GpiReport) :
    LaidOut (lines.map GpiReport.byte) lines.length (lines.zipIdx.flatMap fun x => x.1.layout x.2) := by
  have hlines := laidOut_flatMap (layout := fun offset g => GpiReport.layout offset g) gpiReport_laidOut
    gpiReport_layout_within (fun _ _ _ => rfl) lines
  simpa only [Nat.one_mul, ← List.map_eq_flatMap] using hlines

/-! ### Every frame (R115, R139) -/

theorem body_laidOut (f : TxFrame) : LaidOut f.body f.layout.2.2.1 f.layout.2.2.2 := by
  cases f with
  | accept tag answered info => exact accept_laidOut answered info
  | refuse tag refused reason holder =>
    cases holder <;> simp [LaidOut, TxFrame.body, TxFrame.layout, linkNumber, bytesField, valueAt]
  | notice tag reason bank =>
    cases bank <;> simp [LaidOut, TxFrame.body, TxFrame.layout, bankNumber, bytesField, valueAt]
  | bankState bank n record => exact bankState_laidOut bank n record
  | claimState subject entries => exact claimState_laidOut subject entries
  | scheduleList tag sequence reports f entries => exact scheduleList_laidOut sequence reports f entries
  | linkCounts tag link up holdOff =>
    obtain ⟨hup, hheld, hspare⟩ := twoFlags_bits up holdOff
    simp [LaidOut, TxFrame.body, TxFrame.layout, bytesField, bitsField, valueAt, twoBytes, hup, hheld, hspare]
  | gpiState tag lines => exact gpiState_laidOut lines
  | configValue tag item value =>
    simp [LaidOut, TxFrame.body, TxFrame.layout, bytesField, valueAt, twoBytes]
  | fieldStatus tag f locked cfgDefault running =>
    obtain ⟨hlocked, hdefault, hrunning, hspare⟩ := threeFlags_bits locked cfgDefault running
    simp [LaidOut, TxFrame.body, TxFrame.layout, bytesField, bitsField, valueAt, twoBytes, fourBytes, hlocked, hdefault,
      hrunning, hspare]
  | flow f => cases f <;> exact ⟨rfl, by simp [TxFrame.layout]⟩

theorem layout_envelope (f : TxFrame) : f.layout.1 = f.typeCode ∧ f.layout.2.1 = f.tag := by
  cases f with
  | flow f => cases f <;> exact ⟨rfl, rfl⟩
  | _ => exact ⟨rfl, rfl⟩

theorem frame_sentAs (f : TxFrame) : f.SentAs f.bytes := by
  obtain ⟨htype, htag⟩ := layout_envelope f
  have hbody := body_laidOut f
  refine ⟨f.body, ?_, hbody⟩
  rw [TxFrame.bytes, wholeFrame_eq_framed, hbody.1, htype, htag]

/-- The register takes a byte bit by bit, its most significant bit first (R115). -/
theorem crc16Byte_eq (r : BitVec 16) (b : Byte) :
    crc16Byte r b = (List.range 8).foldl (fun (r : BitVec 16) i =>
      if r.getLsbD 15 = b.getLsbD (7 - i) then r <<< 1 else r <<< 1 ^^^ 0x1021) r := by
  have hbits : [7, 6, 5, 4, 3, 2, 1, 0] = (List.range 8).map (7 - ·) := rfl
  simp only [crc16Byte, hbits, List.foldl_map, crc16Bit, BitVec.msb_eq_getLsbD_last, beq_iff_eq]
  rfl

theorem crc16_append (bytes : List Byte) (b : Byte) : crc16 (bytes ++ [b]) = crc16Byte (crc16 bytes) b :=
  List.foldl_append ..

/-! ### TRANSMIT_END (R119, R122) -/

/-- What begins on an UP link with a free line: the slot's frame, or else the queue's head. -/
theorem kick_free {k : Link} (hup : k.up = true) (hline : k.line = none) (now : Micros) :
    (k.kick now).line = (k.kick now).outgoing.head?.map (fun g => (g, now)) ∧
      (k.slot.isSome = true → (k.kick now).tx = k.tx ∧ (k.kick now).slot = none) ∧
      (k.slot = none → (k.kick now).tx = k.tx.tail) := by
  cases hslot : k.slot with
  | some f => simp [Link.kick, Link.outgoing, hup, hline, hslot]
  | none => cases htx : k.tx <;> simp [Link.kick, Link.outgoing, hup, hline, hslot, htx]

/-- A link at the end of a frame, before the next begins. -/
def lineFreed (k : Link) : Link := { k with line := none }

theorem execTransmitEnd_eq {s : State} {l : LinkIx} {f : TxFrame} {began : Micros}
    (hline : (s.link l).line = some (f, began)) (hnow : s.now ≤ began + 10 * f.bytes.length) :
    exec (.transmitEnd l) s = .next (State.modLink { s with now := began + 10 * f.bytes.length } l fun k =>
      (lineFreed k).kick (began + 10 * f.bytes.length)) := by
  simp only [exec, execTransmitEnd, hline, lineTime_link, reach_eq hnow]
  rfl

/-- Settles O46: the layouts by `body_laidOut`, what begins next by `kick_free`. -/
theorem transmitEndBeginsTheNextFrame : Obligations.TransmitEndBeginsTheNextFrame := by
  refine ⟨frame_sentAs, ⟨rfl, fun bytes b => (crc16_append bytes b).trans (crc16Byte_eq ..)⟩, by decide, by decide,
    fun a => by cases a <;> rfl, fun s l f began hline hup hnow => ?_⟩
  have hlink := State.link_modLink_same { s with now := began + 10 * f.bytes.length } l fun k =>
    (lineFreed k).kick (began + 10 * f.bytes.length)
  obtain ⟨hnext, hslot, hqueue⟩ := kick_free (k := lineFreed (s.link l)) hup rfl (began + 10 * f.bytes.length)
  obtain ⟨hout, hsends⟩ := Link.kick_spec (began + 10 * f.bytes.length) (lineFreed (s.link l))
  refine ⟨_, execTransmitEnd_eq hline hnow, rfl, fun m hm => State.link_modLink_other _ hm _, ?_⟩
  rw [hlink]
  have hfreed : (s.link l).outgoing = f :: (lineFreed (s.link l)).outgoing := by
    simp [Link.outgoing, lineFreed, hline]
  exact ⟨hsends, hfreed.trans (congrArg _ hout.symm), hnext, hslot, hqueue⟩

end Sys2Proof.ControlClaims
end

section
/-! The receive queues (R117 to R119): what the slot ahead of the transmit queue holds after a flow-control frame, and
what a good frame's request does to the queue it joins. -/

open Sys2Proof Sys2Proof.Machine

namespace Sys2Proof.PanelLinks

/-! ### The flow-control slot (R119) -/

/-- A flow-control frame changes nothing but what the link has to send. -/
theorem flow_sends (now : Micros) (f : Flow) (k : Link) : (k.flow now f).SendsFrom k := by
  unfold Link.flow
  split
  · rfl
  · exact (Link.kick_spec now { k with slot := some f }).2

/-- A flow-control frame waits ahead of the transmit queue, or cancels the one that waits there. -/
theorem flow_outgoing (now : Micros) (f : Flow) (k : Link) :
    (k.flow now f).outgoing =
      (k.line.map Prod.fst).toList ++ ((if k.slot.isSome then [] else [.flow f]) ++ k.tx) := by
  unfold Link.flow
  split
  · simp [Link.outgoing]
  · rw [Link.kick_outgoing]
    simp [Link.outgoing]

/-! ### LEVER in the TAKE queue (R117) -/

theorem leverWaits_of_mem {r x : Request} {queue : List Request} {n : Byte} (hr : r.body.leverBank = some n)
    (hx : x.body.leverBank = some n) (hmem : x ∈ queue) : leverWaits r queue = true := by
  simp only [leverWaits, hr, Option.isSome_some, Bool.true_and, List.any_eq_true]
  exact ⟨x, hmem, by simp [hx]⟩

theorem leverWaits_eq_false {r : Request} {queue : List Request}
    (h : r.body.leverBank = none ∨ ∀ x ∈ queue, x.body.leverBank ≠ r.body.leverBank) : leverWaits r queue = false := by
  rcases h with hnone | hother
  · simp [leverWaits, hnone]
  · simp only [leverWaits, Bool.and_eq_false_iff, List.any_eq_false, beq_iff_eq]
    exact .inr hother

/-- The first LEVER for the bank number is the one replaced. -/
theorem replaceLever_first {r x : Request} {before after : List Request} (hx : x.body.leverBank = r.body.leverBank)
    (hbefore : ∀ y ∈ before, y.body.leverBank ≠ r.body.leverBank) :
    replaceLever r (before ++ x :: after) = before ++ r :: after := by
  induction before with
  | nil => simp [replaceLever, hx]
  | cons y before ih =>
    obtain ⟨hy, hbefore⟩ := List.forall_mem_cons.mp hbefore
    simp [replaceLever, hy, ih hbefore]

/-! ### A good frame's request (R117 to R119) -/

section
variable {k : Link} {r : Request} (now : Micros) (room : Bool)

theorem arrive_lever (h : leverWaits r k.takeQ = true) :
    k.arrive now room r = { k with takeQ := replaceLever r k.takeQ } := by
  simp [Link.arrive, h]

theorem arrive_full (h : leverWaits r k.takeQ = false) (hfull : k.queueIsFull r.body.queue = true) :
    k.arrive now room r =
      if room then Link.place now (.refuse r.tag r.body.code .queueFull none) { k with overflow := countUp k.overflow }
      else { k with overflow := countUp k.overflow } := by
  simp [Link.arrive, h, hfull]

theorem arrive_take (h : leverWaits r k.takeQ = false) (hqueue : r.body.queue = .take) (hroom : k.takeQ.length < 8) :
    k.arrive now room r = { k with takeQ := k.takeQ ++ [r] } := by
  simp [Link.arrive, h, Link.queueIsFull, hqueue, hroom]

theorem arrive_setup (h : leverWaits r k.takeQ = false) (hqueue : r.body.queue = .setup)
    (hroom : k.setupQ.length < 24) : k.arrive now room r = k.joinSetup now r := by
  simp [Link.arrive, h, Link.queueIsFull, hqueue, hroom]

/-- A request that finds its queue full leaves a count, and QUEUEFULL behind what the link has to send (R118). -/
theorem arrive_full_answers (h : leverWaits r k.takeQ = false) (hfull : k.queueIsFull r.body.queue = true) :
    (k.arrive now room r).SendsFrom { k with overflow := countUp k.overflow } ∧
      (k.arrive now room r).outgoing = k.outgoing ++
        (if room = true ∧ k.up = true then [.refuse r.tag r.body.code .queueFull none] else []) := by
  rw [arrive_full now room h hfull]
  cases room with
  | false => exact ⟨rfl, by simp [Link.outgoing]⟩
  | true =>
    refine ⟨Link.place_sends .., ?_⟩
    by_cases hup : k.up = true
    · have hplaced := Link.place_outgoing now (.refuse r.tag r.body.code .queueFull none)
        { k with overflow := countUp k.overflow } hup rfl
      simpa [Link.outgoing, hup] using hplaced
    · simp [Link.place_down, Link.outgoing, hup]

/-- A request joins the SETUP queue below or above the occupancy of 20, or with hold-off ON already (R119). -/
theorem joinSetup_quiet (h : k.setupQ.length ≠ 19 ∨ k.holdOff = true) :
    k.joinSetup now r = { k with setupQ := k.setupQ ++ [r] } := by
  refine if_neg ?_
  rintro ⟨hlength, hoff⟩
  rcases h with hother | hon
  · exact hother (by simpa [Config.holdOffAt] using hlength)
  · simp [hon] at hoff

/-- A request brings the SETUP queue to 20 with hold-off OFF (R119). -/
theorem joinSetup_holdOff (hlength : k.setupQ.length = 19) (hoff : k.holdOff = false) :
    k.joinSetup now r = Link.flow now .holdOff { k with setupQ := k.setupQ ++ [r], holdOff := true } :=
  if_pos ⟨by simp [hlength, Config.holdOffAt], hoff⟩

end

/-- Settles O45, by the cases of `Link.arrive`: a LEVER replaced, a queue full, a place in either queue. -/
theorem arrivingRequestsJoinTheirQueue : Obligations.ArrivingRequestsJoinTheirQueue := by
  rintro now room r k j rfl
  refine ⟨fun n before x after hr hqueue hx hbefore => ?_, fun hnew => ?_⟩
  · have hwaits : leverWaits r k.takeQ = true := leverWaits_of_mem hr hx (by simp [hqueue])
    rw [arrive_lever now room hwaits, hqueue, replaceLever_first (hx.trans hr.symm) (by rwa [hr])]
  · replace hnew := leverWaits_eq_false hnew
    refine ⟨arrive_take now room hnew, fun hfull => ?_, fun hqueue hroom hquiet => ?_, fun hqueue hlength hoff _ => ?_⟩
    · refine arrive_full_answers now room hnew ?_
      obtain ⟨hqueue, hplaces⟩ | ⟨hqueue, hplaces⟩ := hfull <;> simpa [Link.queueIsFull, hqueue] using hplaces
    · rw [arrive_setup now room hnew hqueue hroom, joinSetup_quiet now hquiet]
    · rw [arrive_setup now room hnew hqueue (by omega), joinSetup_holdOff now hlength hoff]
      exact ⟨flow_sends .., flow_outgoing ..⟩

end Sys2Proof.PanelLinks
end

section
/-! Bytes at a panel link's receiver (R112, R114, R115): what one byte does in each state of the receiver, and what the
1 ms gap does. -/

open Sys2Proof Sys2Proof.Machine Sys2Proof.TransitionController

namespace Sys2Proof.PanelLinks

/-! ### One byte at the receiver (R114, R115) -/

section
variable {k : Link} {y : RxByte} (now : Micros) (room : Bool)

/-- Hunting, the receiver lets every byte pass that is no start byte. -/
theorem takeByte_passes (hhunts : k.receiver = .hunting) (hdata : y.data ≠ 0xA5) : k.takeByte now room y = k := by
  simp only [Link.takeByte, hhunts, if_neg hdata]

/-- Hunting, the receiver begins a frame at a start byte. -/
theorem takeByte_begins (hhunts : k.receiver = .hunting) (hdata : y.data = 0xA5) (hstop : y.stop = true) :
    k.takeByte now room y = { k with receiver := .inFrame [0xA5] now } := by
  simp [Link.takeByte, hhunts, hdata, hstop]

variable {got : List Byte} {last : Micros} (hin : k.receiver = .inFrame got last)
include hin

theorem takeByte_noStop (hstop : y.stop = false) : k.takeByte now room y = k.discardFrame := by
  simp [Link.takeByte, hin, hstop]

variable {len : Byte} (hstop : y.stop = true) (hlen : (got ++ [y.data])[1]? = some len)
include hstop hlen

/-- A byte of a frame whose LEN has come, the frame not ended by its stop bit: LEN, then the count of its bytes, then its
CRC decide. -/
theorem takeByte_inFrame : k.takeByte now room y =
    if len.toNat < 2 ∨ 60 < len.toNat then k.discardFrame
    else if got.length + 1 < len.toNat + 4 then { k with receiver := .inFrame (got ++ [y.data]) now }
    else if crcGood ((got ++ [y.data]).drop 1) then
      Link.arrive now room (requestOf ((got ++ [y.data]).drop 1)) { k with receiver := .hunting }
    else k.discardFrame := by
  have hlong : ¬ (got ++ [y.data]).length < 2 := by
    have := (List.getElem?_eq_some_iff.mp hlen).1
    omega
  have hvalue : (got ++ [y.data]).getD 1 0 = len := by rw [List.getD_eq_getElem?_getD, hlen, Option.getD_some]
  simp only [Link.takeByte, hin, hstop, hvalue, if_neg hlong]
  rw [List.length_append]
  rfl

theorem takeByte_badLength (hrange : len.toNat < 2 ∨ 60 < len.toNat) : k.takeByte now room y = k.discardFrame := by
  rw [takeByte_inFrame now room hin hstop hlen, if_pos hrange]

variable (hlow : 2 ≤ len.toNat) (hhigh : len.toNat ≤ 60)
include hlow hhigh

theorem takeByte_goesOn (hmore : got.length + 1 < len.toNat + 4) :
    k.takeByte now room y = { k with receiver := .inFrame (got ++ [y.data]) now } := by
  rw [takeByte_inFrame now room hin hstop hlen, if_neg (by omega), if_pos hmore]

variable (hlast : got.length + 1 = len.toNat + 4)
include hlast

theorem takeByte_badCrc (hcrc : crcGood ((got ++ [y.data]).drop 1) = false) :
    k.takeByte now room y = k.discardFrame := by
  rw [takeByte_inFrame now room hin hstop hlen, if_neg (by omega), if_neg (by omega), hcrc]
  rfl

theorem takeByte_whole (hcrc : crcGood ((got ++ [y.data]).drop 1) = true) :
    k.takeByte now room y =
      Link.arrive now room (requestOf ((got ++ [y.data]).drop 1)) { k with receiver := .hunting } := by
  rw [takeByte_inFrame now room hin hstop hlen, if_neg (by omega), if_neg (by omega), if_pos hcrc]

end

/-- The byte after the start byte is LEN. -/
theorem getElem?_one_of_length {got : List Byte} (h : got.length = 1) (b : Byte) : (got ++ [b])[1]? = some b := by
  rw [← h]
  exact List.getElem?_concat_length

/-- LEN stays where it is as further bytes come. -/
theorem getElem?_one_append {got : List Byte} (h : 2 ≤ got.length) (bytes : List Byte) :
    (got ++ bytes)[1]? = got[1]? :=
  List.getElem?_append_left h

/-! ### The gap between two bytes (R114) -/

theorem checkGap_hunting {k : Link} (h : k.receiver = .hunting) (now : Micros) : k.checkGap now = k := by
  simp [Link.checkGap, h]

theorem checkGap_inTime {k : Link} {got : List Byte} {last now : Micros} (h : k.receiver = .inFrame got last)
    (hgap : now - last ≤ 1000) : k.checkGap now = k := by
  simp [Link.checkGap, h, Config.gapTime, hgap]

/-! ### One byte on a link (R112, R114) -/

section
variable {s : State} {l : LinkIx} (y : RxByte) (dt : Micros)

/-- A byte moves the time and touches nothing beyond its link. -/
theorem byteIn_frame (s : State) (l : LinkIx) :
    s.byteIn l y dt = { s with now := s.now + dt, links := (s.byteIn l y dt).links } := rfl

theorem byteIn_other {m : LinkIx} (h : m ≠ l) : (s.byteIn l y dt).link m = s.link m :=
  State.link_modLink_other _ h _

/-- A DOWN link discards the byte (R112). -/
theorem byteIn_down (h : (s.link l).up = false) : (s.byteIn l y dt).link l = s.link l :=
  (State.link_modLink_same ..).trans (if_neg (by simpa [State.link] using h))

/-- An UP link whose last byte is no more than 1 ms ago hands the byte to its receiver. -/
theorem byteIn_up (h : (s.link l).up = true) (hgap : (s.link l).checkGap (s.now + dt) = s.link l) :
    (s.byteIn l y dt).link l = (s.link l).takeByte (s.now + dt) (decide (0 < s.uncommitted l)) y := by
  refine (State.link_modLink_same ..).trans ((if_pos h).trans ?_)
  exact congrArg (Link.takeByte (s.now + dt) (decide (0 < s.uncommitted l)) y) hgap

end

/-- The gap that expires discards the frame (R114). -/
theorem execInterbyteTimeout_eq {s : State} {l : LinkIx} {got : List Byte} {last : Micros}
    (h : (s.link l).receiver = .inFrame got last) (hnow : s.now ≤ last + 1000) :
    exec (.interbyteTimeout l) s = .next (State.modLink { s with now := last + 1000 } l Link.discardFrame) := by
  simp only [exec, execInterbyteTimeout, h]
  exact congrArg (fun t => Host.Outcome.next (State.modLink t l Link.discardFrame)) (reach_eq hnow)

/-- Settles O44, by the cases of `Link.takeByte` on an UP link. -/
theorem bytesAreTakenOrTheFrameDiscarded : Obligations.BytesAreTakenOrTheFrameDiscarded := by
  intro s l y dt
  refine ⟨_, rfl, byteIn_frame y dt s l, fun m => byteIn_other y dt, byteIn_down y dt, fun hup hhunts => ?_,
    fun got last hup hin hgap => ?_, fun got last hin hnow => execInterbyteTimeout_eq hin hnow⟩
  · rw [byteIn_up y dt hup (checkGap_hunting hhunts _)]
    exact ⟨takeByte_passes _ _ hhunts, takeByte_begins _ _ hhunts⟩
  · rw [byteIn_up y dt hup (checkGap_inTime hin hgap)]
    refine ⟨takeByte_noStop _ _ hin, fun hstop hone => ?_, fun hstop hone hlow hhigh => ?_,
      fun len hstop htwo hlen hlow hhigh => ⟨fun hmore => ?_, fun hlast => ?_⟩⟩
    · exact takeByte_badLength _ _ hin hstop (getElem?_one_of_length hone _)
    · exact takeByte_goesOn _ _ hin hstop (getElem?_one_of_length hone _) hlow hhigh (by omega)
    · exact takeByte_goesOn _ _ hin hstop ((getElem?_one_append htwo _).trans hlen) hlow hhigh hmore
    · exact takeByte_badCrc _ _ hin hstop ((getElem?_one_append htwo _).trans hlen) hlow hhigh hlast

end Sys2Proof.PanelLinks
end

section
/-! Frames that arrive whole (R114 to R116, R139): the bodies of the requests, type by type, and the bytes of a frame back
to back at a receiver that hunts. -/

open Sys2Proof Sys2Proof.Machine Sys2Proof.TransitionController Sys2Proof.TransitionArithmetic

namespace Sys2Proof.PanelLinks

/-! ### Request bodies (R116, R139) -/

theorem fromBytes_pair (high low : Byte) : fromBytes [high, low] = 256 * high.toNat + low.toNat := by
  simp [fromBytes, Nat.mul_comm]

/-- A value of 16 bits is its two bytes, the most significant first (R139). -/
theorem ofNat_fromBytes_pair (high low : Byte) : BitVec.ofNat 16 (fromBytes [high, low]) = high ++ low := by
  apply BitVec.eq_of_toNat_eq
  have hhigh := high.isLt
  have hlow := low.isLt
  rw [fromBytes_pair, BitVec.toNat_append, ← Nat.shiftLeft_add_eq_or_of_lt hlow, Nat.shiftLeft_eq, BitVec.toNat_ofNat]
  omega

/-- The body of each request type has the bytes of its layout. -/
theorem parseBody_layouts (b0 b1 b2 b3 b4 b5 b6 b7 b8 b9 b10 b11 : Byte) :
    parseBody 0x01 [b0, b1, b2, b3] = .select b0 b1 b2 b3 ∧
    parseBody 0x02 [b0, b1] = .cut b0 b1 ∧ parseBody 0x03 [b0, b1] = .auto b0 b1 ∧
    parseBody 0x04 [b0, b1] = .hold b0 b1 ∧ parseBody 0x05 [b0, b1, b2] = .lever b0 (256 * b1.toNat + b2.toNat) ∧
    parseBody 0x06 [b0, b1, b2, b3] = .keyCut b0 b1 b2 b3 ∧
    parseBody 0x07 [b0, b1, b2, b3, b4, b5, b6, b7, b8, b9, b10, b11] =
      .keySetup b0 b1 b2 b3 b4 b5 (256 * b6.toNat + b7.toNat) (256 * b8.toNat + b9.toNat) b10 b11 ∧
    parseBody 0x08 [b0, b1, b2, b3, b4, b5, b6, b7, b8, b9, b10] =
      .transSetup b0 b1 b2 (256 * b3.toNat + b4.toNat) b5 b6 b7 b8 b9 b10 ∧
    parseBody 0x09 [b0, b1, b2] = .layers b0 b1 b2 ∧ parseBody 0x0A [b0] = .claim b0 ∧
    parseBody 0x0B [b0] = .release b0 ∧ parseBody 0x0C [b0] = .breakLock b0 ∧
    parseBody 0x0D [b0, b1, b2] = .recallEffect b0 b1 b2 ∧ parseBody 0x0E [b0, b1] = .store b0 b1 ∧
    parseBody 0x0F [b0] = .cancel b0 ∧ parseBody 0x10 [b0, b1, b2] = .config b0 (b1 ++ b2) ∧
    parseBody 0x11 [] = .saveConfig ∧ parseBody 0x12 [] = .reset ∧ parseBody 0x13 [b0, b1] = .query b0 b1 := by
  simp only [← fromBytes_pair, ← ofNat_fromBytes_pair]
  exact ⟨rfl, rfl, rfl, rfl, rfl, rfl, rfl, rfl, rfl, rfl, rfl, rfl, rfl, rfl, rfl, rfl, rfl, rfl, rfl⟩

/-- The request of a frame names the frame's type (R132). -/
theorem parseBody_code (frameType : Byte) (body : List Byte) : (parseBody frameType body).code = frameType := by
  have hcode {n : Nat} (h : frameType.toNat = n) : BitVec.ofNat 8 n = frameType := by simp [← h]
  unfold parseBody
  dsimp only
  split <;> rename_i htype
  case h_20 => rfl
  all_goals
    split
    · exact hcode htype
    · rfl

theorem parseBody_badType {frameType : Byte} (h : frameType.toNat = 0 ∨ 0x13 < frameType.toNat) (body : List Byte) :
    parseBody frameType body = .malformed frameType .badType := by
  unfold parseBody
  dsimp only
  split
  case h_20 => rfl
  all_goals omega

theorem parseBody_badLength {frameType : Byte} {body : List Byte} {n : Nat} (hlow : 1 ≤ frameType.toNat)
    (hn : [4, 2, 2, 2, 3, 4, 12, 11, 3, 1, 1, 1, 3, 2, 1, 3, 0, 0, 2][frameType.toNat - 1]? = some n)
    (hbody : body.length ≠ n) : parseBody frameType body = .malformed frameType .badLength := by
  unfold parseBody
  dsimp only
  split <;> rename_i htype
  case h_20 =>
    have hlisted : frameType.toNat - 1 < 19 := (List.getElem?_eq_some_iff.mp hn).1
    simp only [imp_false] at *
    omega
  all_goals
    rw [htype] at hn
    cases hn
    split
    · exact absurd rfl hbody
    · rfl

/-! ### The CRC and the parts of a whole frame (R115, R116) -/

/-- The bytes of a frame after its start byte, without its CRC: LEN, the type, the tag and the body (R114). -/
def checkedBytes (frameType tag : Byte) (body : List Byte) : List Byte :=
  BitVec.ofNat 8 (body.length + 2) :: frameType :: tag :: body

/-- The two bytes of a CRC-16, the high byte first (R115). -/
def crcBytes (checked : List Byte) : List Byte := [(crc16 checked).extractLsb' 8 8, (crc16 checked).extractLsb' 0 8]

/-- Bytes with their CRC-16 behind them pass the receiver's test. -/
theorem crcGood_crcBytes (checked : List Byte) : crcGood (checked ++ crcBytes checked) = true := by
  have hcrc : fromBytes (crcBytes checked) = (crc16 checked).toNat := by
    rw [crcBytes, ← bigEndian_crc16, bigEndian_two, fromBytes_two (crc16 checked).isLt]
  have hlength : (checked ++ crcBytes checked).length - 2 = checked.length := by simp [crcBytes]
  rw [crcGood, hlength, List.take_left, List.drop_left, hcrc]
  exact decide_eq_true rfl

/-- A frame is its start byte, LEN and the bytes that follow it, and its last byte. -/
theorem framed_split (frameType tag : Byte) (body : List Byte) : ∃ bytes last,
    framed 0xA5 (checkedBytes frameType tag body) = 0xA5 :: bytes ++ [last] ∧ bytes.length = body.length + 4 ∧
      ([0xA5] ++ (bytes ++ [last]))[1]? = some (BitVec.ofNat 8 (body.length + 2)) :=
  ⟨checkedBytes frameType tag body ++ [(crc16 (checkedBytes frameType tag body)).extractLsb' 8 8],
    (crc16 (checkedBytes frameType tag body)).extractLsb' 0 8, by simp [framed], by simp [checkedBytes], rfl⟩

/-- The request of a whole frame is what its type, its tag and its body say (R116). -/
theorem requestOf_checkedBytes (frameType tag : Byte) (body : List Byte) :
    requestOf (checkedBytes frameType tag body ++ crcBytes (checkedBytes frameType tag body)) =
      { tag := tag, body := parseBody frameType body } := by
  simp [requestOf, checkedBytes, crcBytes]

/-! ### Bytes back to back (R112, R114) -/

/-- A byte that arrives with its stop bit. -/
def withStop (b : Byte) : RxByte := ⟨b, true⟩

/-- The state in which link `l` has the bytes `got` of a frame, the last of them at the moment `m`, and the rest of the
part stands as in `s`. -/
def receiving (s : State) (l : LinkIx) (got : List Byte) (m : Micros) : State :=
  State.modLink { s with now := m } l fun k => { k with receiver := .inFrame got m }

section
variable {s : State} {l : LinkIx}

@[simp] theorem receiving_link (s : State) (l : LinkIx) (got : List Byte) (m : Micros) :
    (receiving s l got m).link l = { s.link l with receiver := .inFrame got m } := State.link_modLink_same ..

theorem receiving_other (got : List Byte) (m : Micros) {p : LinkIx} (h : p ≠ l) :
    (receiving s l got m).link p = s.link p := State.link_modLink_other _ h _

/-- A frame being received commits no place of the transmit queue. -/
theorem receiving_uncommitted (got : List Byte) (m : Micros) : (receiving s l got m).uncommitted l = s.uncommitted l := by
  simp only [State.uncommitted, receiving_link]
  rfl

/-- Two states that differ in the time and in one link alone. -/
theorem eq_receiving {t : State} {got : List Byte} {m : Micros} (hframe : t = { s with now := m, links := t.links })
    (hother : ∀ p, p ≠ l → t.link p = s.link p) (hlink : t.link l = { s.link l with receiver := .inFrame got m }) :
    t = receiving s l got m := by
  have hlinks : t.links = (receiving s l got m).links := table_ext fun p => by
    by_cases hp : p = l
    · rw [hp]
      exact hlink.trans (receiving_link ..).symm
    · exact (hother p hp).trans (receiving_other got m hp).symm
  rw [hframe, hlinks]
  rfl

/-- The start byte brings a receiver that hunts into a frame. -/
theorem byteIn_start (hup : (s.link l).up = true) (hhunts : (s.link l).receiver = .hunting) (dt : Micros) :
    s.byteIn l (withStop 0xA5) dt = receiving s l [0xA5] (s.now + dt) := by
  refine eq_receiving (byteIn_frame ..) (fun p hp => byteIn_other _ _ hp) ?_
  rw [byteIn_up _ _ hup (checkGap_hunting hhunts _), takeByte_begins _ _ hhunts rfl rfl]

/-- What the link of a frame under way makes of the frame's next byte, 10 µs after the last. -/
theorem byteIn_receiving (hup : (s.link l).up = true) (got : List Byte) (m : Micros) (b : Byte) :
    ((receiving s l got m).byteIn l (withStop b) 10).link l =
      Link.takeByte (m + 10) (decide (0 < s.uncommitted l)) (withStop b)
        { s.link l with receiver := .inFrame got m } := by
  have hgap : ((receiving s l got m).link l).checkGap ((receiving s l got m).now + 10) = (receiving s l got m).link l :=
    checkGap_inTime (by rw [receiving_link]) (by simp [receiving])
  rw [byteIn_up _ _ (by simpa using hup) hgap, receiving_link, receiving_uncommitted]
  rfl

theorem byteIn_receiving_other (got : List Byte) (m : Micros) (b : Byte) {p : LinkIx} (h : p ≠ l) :
    ((receiving s l got m).byteIn l (withStop b) 10).link p = s.link p :=
  (byteIn_other _ _ h).trans (receiving_other got m h)

theorem bytesIn_cons (y : RxByte) {bytes : List RxByte} (h : bytes ≠ []) (dt : Micros) :
    s.bytesIn l (y :: bytes) dt = (s.byteIn l y dt).bytesIn l bytes 10 := by
  obtain ⟨z, rest, rfl⟩ := List.exists_cons_of_ne_nil h
  rfl

variable {len : Byte} (hup : (s.link l).up = true) (hlow : 2 ≤ len.toNat) (hhigh : len.toNat ≤ 60)
include hup hlow hhigh

/-- A byte that does not end the frame is taken into it. -/
theorem byteIn_goesOn {got : List Byte} {b : Byte} (hlen : (got ++ [b])[1]? = some len)
    (hmore : got.length + 1 < len.toNat + 4) (m : Micros) :
    (receiving s l got m).byteIn l (withStop b) 10 = receiving s l (got ++ [b]) (m + 10) := by
  refine eq_receiving (byteIn_frame ..) (fun p hp => byteIn_receiving_other got m b hp) ?_
  rw [byteIn_receiving hup, takeByte_goesOn _ _ rfl rfl hlen hlow hhigh hmore]
  rfl

/-- Bytes back to back, all of one frame, leave the receiver with all but the last when that one comes. -/
theorem bytesIn_receiving {got bytes : List Byte} (hgot : 1 ≤ got.length) (last : Byte)
    (hlen : (got ++ (bytes ++ [last]))[1]? = some len) (hmore : got.length + bytes.length < len.toNat + 4) (m : Micros) :
    (receiving s l got m).bytesIn l ((bytes ++ [last]).map withStop) 10 =
      (receiving s l (got ++ bytes) (m + 10 * bytes.length)).byteIn l (withStop last) 10 := by
  induction bytes generalizing got m with
  | nil => rw [List.append_nil]; rfl
  | cons b bytes ih =>
    have hsplit : got ++ (b :: bytes ++ [last]) = (got ++ [b]) ++ (bytes ++ [last]) := by simp
    have htime : m + 10 * (b :: bytes).length = m + 10 + 10 * bytes.length := by
      rw [List.length_cons]
      ring
    rw [List.length_cons] at hmore
    rw [hsplit] at hlen
    have hfirst : (got ++ [b])[1]? = some len := by
      rwa [getElem?_one_append (by rw [List.length_append]; exact Nat.succ_le_succ hgot)] at hlen
    have hnext := ih (by simp) hlen (by rw [List.length_append, List.length_singleton]; omega) (m + 10)
    rw [List.cons_append, List.map_cons, bytesIn_cons _ (by simp), byteIn_goesOn hup hlow hhigh hfirst (by omega), hnext,
      htime, List.append_assoc, List.singleton_append]

end

theorem lenByte_toNat {body : List Byte} (hbody : body.length ≤ 58) :
    (BitVec.ofNat 8 (body.length + 2)).toNat = body.length + 2 := by
  rw [BitVec.toNat_ofNat]
  omega

/-- The last byte of a whole frame brings its request to the queues (R116). -/
theorem byteIn_whole {s : State} {l : LinkIx} (hup : (s.link l).up = true) (hhunts : (s.link l).receiver = .hunting)
    {frameType tag : Byte} {body got : List Byte} {last : Byte} (hbody : body.length ≤ 58)
    (hframe : got ++ [last] = framed 0xA5 (checkedBytes frameType tag body)) (m : Micros) :
    ((receiving s l got m).byteIn l (withStop last) 10).link l =
      (s.link l).arrive (m + 10) (decide (0 < s.uncommitted l)) { tag := tag, body := parseBody frameType body } := by
  have hvalue := lenByte_toNat hbody
  have hchecked : (got ++ [last]).drop 1 =
      checkedBytes frameType tag body ++ crcBytes (checkedBytes frameType tag body) := by rw [hframe]; rfl
  have hlength : got.length + 1 = (BitVec.ofNat 8 (body.length + 2)).toNat + 4 := by
    simpa [framed_length, checkedBytes, hvalue] using congrArg List.length hframe
  have hhunting : { s.link l with receiver := .hunting } = s.link l := by rw [← hhunts]
  rw [byteIn_receiving hup, takeByte_whole _ _ rfl rfl (by rw [withStop, hframe]; rfl) (by omega) (by omega) hlength
    (by rw [withStop, hchecked]; exact crcGood_crcBytes _), withStop, hchecked, requestOf_checkedBytes, hhunting]

/-- The bytes of a whole frame come to its last byte at a receiver that has taken all the others (R114). -/
theorem bytesIn_framed {s : State} {l : LinkIx} (hup : (s.link l).up = true) (hhunts : (s.link l).receiver = .hunting)
    (frameType tag : Byte) {body : List Byte} (hbody : body.length ≤ 58) (dt : Micros) : ∃ got last,
    got ++ [last] = framed 0xA5 (checkedBytes frameType tag body) ∧
      s.bytesIn l ((framed 0xA5 (checkedBytes frameType tag body)).map withStop) dt =
        (receiving s l got (s.now + dt + 10 * (body.length + 4))).byteIn l (withStop last) 10 := by
  obtain ⟨bytes, last, hsplit, hlength, hlen⟩ := framed_split frameType tag body
  have hvalue := lenByte_toNat hbody
  have hrest := bytesIn_receiving (got := [0xA5]) hup (by omega) (by omega) (Nat.le_refl 1) last hlen
    (by rw [List.length_singleton]; omega) (s.now + dt)
  refine ⟨0xA5 :: bytes, last, hsplit.symm, ?_⟩
  rw [hsplit, List.cons_append, List.map_cons, bytesIn_cons _ (by simp), ← hlength]
  exact (congrArg (State.bytesIn · l _ 10) (byteIn_start hup hhunts dt)).trans hrest

/-- Settles O43: the layouts by the laws of `parseBody`, a whole frame by `bytesIn_framed` and its last byte. -/
theorem wholeFramesArriveAsTheyWereSent : Obligations.WholeFramesArriveAsTheyWereSent := by
  refine ⟨parseBody_layouts, fun frameType body => ⟨parseBody_code .., (parseBody_badType · body),
    fun n => parseBody_badLength⟩, fun s l frameType tag body dt hup hhunts hbody => ?_⟩
  obtain ⟨got, last, hframe, hrun⟩ := bytesIn_framed hup hhunts frameType tag hbody dt
  have hmoment : s.now + dt + 10 * (body.length + 4) + 10 = s.now + dt + 10 * (body.length + 5) := by ring
  refine ⟨_, congrArg Host.Outcome.next hrun, ?_, fun m hm => byteIn_receiving_other got _ last hm,
    byteIn_whole hup hhunts hbody hframe _⟩
  rw [← hmoment]
  rfl

end Sys2Proof.PanelLinks
end

section
/-! The Command Arbiter (R119, R120, R123, R124): the candidate of a link, the order in which links are examined, and the
request that leaves its queue. -/

open Sys2Proof Sys2Proof.Machine

namespace Sys2Proof.PanelLinks

/-! ### The candidate of a link (R123, R124) -/

section
variable {k : Link} {ratio : Nat} {r : Request}

theorem candidate_noTake (h : k.takeQ = []) : k.candidate ratio = k.setupQ.head?.map fun r => (.setup, r) := by
  unfold Link.candidate
  rw [h]
  cases k.setupQ <;> rfl

theorem candidate_take (h : k.takeQ.head? = some r) (hturn : k.takeRun < ratio ∨ k.setupQ = []) :
    k.candidate ratio = some (.take, r) := by
  obtain ⟨rest, hq⟩ := List.head?_eq_some_iff.mp h
  unfold Link.candidate
  rw [hq]
  cases hsetup : k.setupQ with
  | nil => rfl
  | cons x xs => exact if_pos (hturn.resolve_right (by simp [hsetup]))

theorem candidate_setup (h : k.takeQ ≠ []) (hturn : ratio ≤ k.takeRun) (hsetup : k.setupQ.head? = some r) :
    k.candidate ratio = some (.setup, r) := by
  obtain ⟨x, xs, hq⟩ := List.exists_cons_of_ne_nil h
  obtain ⟨rest, hs⟩ := List.head?_eq_some_iff.mp hsetup
  unfold Link.candidate
  rw [hq, hs]
  exact if_neg (Nat.not_lt.mpr hturn)

/-- A candidate stands at the head of the queue it is taken from. -/
theorem head_of_candidate {q : QueueKind} (h : k.candidate ratio = some (q, r)) :
    (q = .take → k.takeQ = r :: k.takeQ.tail) ∧ (q = .setup → k.setupQ = r :: k.setupQ.tail) := by
  unfold Link.candidate at h
  split at h
  case h_1 => cases h
  case h_2 hsetup => cases h; simp [hsetup]
  case h_3 htake _ => cases h; simp [htake]
  case h_4 htake hsetup =>
    split at h
    · cases h; simp [htake]
    · cases h; simp [hsetup]

end

/-! ### Needs and places (R120, R123) -/

/-- A mask names as many banks as it has bits 0 to 3 set (log 22). -/
theorem length_maskBanks (mask : Byte) :
    (maskBanks mask.toNat).length = ((List.range 4).filter fun i => mask.getLsbD i).length := by
  have hrange : List.range 4 = (indices 4).map Fin.val := by decide
  rw [hrange, List.filter_map, List.length_map]
  rfl

/-- The table of R123. -/
theorem need_table (b : Body) : b.need = match b with
    | .cut mask _ | .auto mask _ | .hold mask _ => 1 + ((List.range 4).filter fun i => mask.getLsbD i).length
    | .select _ _ _ _ | .keyCut _ _ _ _ | .keySetup _ _ _ _ _ _ _ _ _ _ | .transSetup _ _ _ _ _ _ _ _ _ _
    | .layers _ _ _ | .recallEffect _ _ _ | .store _ _ | .saveConfig => 2
    | .query subject _ => if subject.toNat = 3 then 3 else 1
    | .lever _ _ | .claim _ | .release _ | .breakLock _ | .cancel _ | .config _ _ | .reset | .malformed _ _ => 1 := by
  cases b with
  | cut mask | auto mask | hold mask => exact congrArg (1 + ·) (length_maskBanks mask)
  | query subject argument =>
    have hsubject : subject = 3 ↔ subject.toNat = 3 := BitVec.toNat_inj.symm
    exact if_congr hsubject rfl rfl
  | _ => rfl

theorem uncommitted_eq (s : State) (l : LinkIx) :
    s.uncommitted l = 31 - (((s.link l).tx.filter fun f => (reportPlace f).isNone).length +
      ((s.schedule.filter fun e => match e.origin with | .link p _ => p == l | .line _ => false).length +
        (s.engine.jobs.filter fun j => match j with
          | .store p _ _ _ _ | .save p _ => p == l
          | .recallEffect _ _ _ | .load => false).length)) := by
  have hjobs : Job.promises l = fun j => match j with
      | .store p _ _ _ _ | .save p _ => p == l
      | .recallEffect _ _ _ | .load => false := by
    funext j
    cases j <;> rfl
  have hentries : (fun e : Entry => e.origin.isLink l) = fun e => match e.origin with
      | .link p _ => p == l
      | .line _ => false := by
    funext e
    cases e.origin <;> rfl
  rw [State.uncommitted, State.promised, hjobs, hentries]
  rfl

/-! ### Eligible links (R123) -/

theorem eligible_iff (s : State) (l : LinkIx) (o : Offer) :
    s.eligible l = some o ↔ (s.link l).up = true ∧ o.link = l ∧
      (s.link l).candidate (s.item 6).toNat = some (o.queue, ⟨o.tag, o.body⟩) ∧ o.body.need ≤ s.uncommitted l := by
  constructor
  · intro h
    obtain ⟨hlink, hup, hcandidate, hneed⟩ := State.eligible_spec h
    exact ⟨hup, hlink, hcandidate, hneed⟩
  · rintro ⟨hup, rfl, hcandidate, hneed⟩
    have hcandidate : (s.link o.link).candidate s.takeRatio = some (o.queue, ⟨o.tag, o.body⟩) := hcandidate
    simp [State.eligible, hup, hcandidate, hneed]

/-! ### The order of the links (R124) -/

/-- Every link is examined. -/
theorem mem_arbiterOrder (s : State) (l : LinkIx) : l ∈ s.arbiterOrder :=
  List.mem_map.mpr ⟨l - (s.pointer + 1), mem_indices _, add_sub_cancel ..⟩

/-- The links are examined in the order of their distance from the link after the one served last. -/
theorem arbiterOrder_pairwise (s : State) :
    s.arbiterOrder.Pairwise fun l m => l - (s.pointer + 1) < m - (s.pointer + 1) := by
  simp only [State.arbiterOrder, List.pairwise_map, add_sub_cancel_left]
  exact List.pairwise_lt_finRange 6

theorem offer_eq_none_iff (s : State) : s.offer = none ↔ s.running = false ∨ ∀ m, s.eligible m = none := by
  cases hrunning : s.running with
  | false => simp [State.offer, hrunning]
  | true =>
    simp only [State.offer, hrunning, if_pos, List.findSome?_eq_none_iff, Bool.true_eq_false, false_or]
    exact ⟨fun h m => h m (mem_arbiterOrder s m), fun h m _ => h m⟩

/-- No link before that of the request handed over is eligible. -/
theorem eligible_before_offer {s : State} {o : Offer} (h : s.offer = some o) {l : LinkIx}
    (hl : l - (s.pointer + 1) < o.link - (s.pointer + 1)) : s.eligible l = none := by
  obtain ⟨hrunning, -, -⟩ := State.offer_spec h
  rw [State.offer, if_pos hrunning, List.findSome?_eq_some_iff] at h
  obtain ⟨before, m, after, horder, hm, hbefore⟩ := h
  obtain ⟨hlink, -⟩ := State.eligible_spec hm
  have hmem := mem_arbiterOrder s l
  have hpairwise := arbiterOrder_pairwise s
  rw [horder, List.mem_append, List.mem_cons] at hmem
  rw [horder, List.pairwise_append, List.pairwise_cons] at hpairwise
  obtain ⟨-, ⟨hafter, -⟩, -⟩ := hpairwise
  rcases hmem with hin | rfl | hin
  · exact hbefore l hin
  · exact absurd hl (hlink ▸ lt_irrefl _)
  · exact absurd hl (hlink ▸ (hafter l hin).asymm)

/-- A link that stands behind another in the order of one pointer comes nearer when the pointer moves to that other. -/
theorem distance_lt_of_behind : ∀ p o l : LinkIx, l ≠ o → ¬ l - (p + 1) < o - (p + 1) → l - (o + 1) < l - (p + 1) := by
  decide

/-! ### The request leaves its queue (R119, R124) -/

theorem takeRequest_take (s : State) {o : Offer} (h : o.queue = .take) :
    (s.takeRequest o).link o.link = (s.link o.link).leaveTake := by
  simp [State.takeRequest, State.link, h]

theorem takeRequest_setup (s : State) {o : Offer} (h : o.queue = .setup) :
    (s.takeRequest o).link o.link = (s.link o.link).leaveSetup s.now := by
  simp [State.takeRequest, State.link, h]

/-- The head of the SETUP queue leaves it without a RESUME (R119). -/
theorem leaveSetup_quiet {k : Link} (now : Micros) (h : k.setupQ.tail.length ≠ 8 ∨ k.holdOff = false) :
    k.leaveSetup now = { k with setupQ := k.setupQ.tail, takeRun := 0 } := by
  refine if_neg ?_
  rintro ⟨hlength, hon⟩
  rcases h with hother | hoff
  · exact hother hlength
  · simp [hoff] at hon

/-- A SETUP queue brought to 8 with hold-off ON (R119). -/
theorem leaveSetup_resume {k : Link} (now : Micros) (hlength : k.setupQ.tail.length = 8) (hon : k.holdOff = true) :
    k.leaveSetup now = Link.flow now .resume { k with setupQ := k.setupQ.tail, takeRun := 0, holdOff := false } :=
  if_pos ⟨hlength, hon⟩

/-- What the leaving of a SETUP request does to a link's queues and to its take-run counter (R124). -/
theorem leaveSetup_queues (now : Micros) (k : Link) : (k.leaveSetup now).setupQ = k.setupQ.tail ∧
    (k.leaveSetup now).takeQ = k.takeQ ∧ (k.leaveSetup now).takeRun = 0 := by
  by_cases h : k.setupQ.tail.length = 8 ∧ k.holdOff = true
  · obtain ⟨hlength, hon⟩ := h
    rw [leaveSetup_resume now hlength hon, flow_sends]
    exact ⟨rfl, rfl, rfl⟩
  · rw [leaveSetup_quiet now ((not_and_or.mp h).imp_right (by simp))]
    exact ⟨rfl, rfl, rfl⟩

/-- The request handed over was the head of its queue, and the take-run counter counts it (R124). -/
theorem takeRequest_queues {s : State} {o : Offer} (h : s.offer = some o) :
    match o.queue with
    | .take => (s.link o.link).takeQ = ⟨o.tag, o.body⟩ :: ((s.takeRequest o).link o.link).takeQ ∧
        ((s.takeRequest o).link o.link).setupQ = (s.link o.link).setupQ ∧
        ((s.takeRequest o).link o.link).takeRun = min ((s.link o.link).takeRun + 1) 15
    | .setup => (s.link o.link).setupQ = ⟨o.tag, o.body⟩ :: ((s.takeRequest o).link o.link).setupQ ∧
        ((s.takeRequest o).link o.link).takeQ = (s.link o.link).takeQ ∧
        ((s.takeRequest o).link o.link).takeRun = 0 := by
  obtain ⟨-, heligible, -⟩ := State.offer_spec h
  obtain ⟨-, -, hcandidate, -⟩ := State.eligible_spec heligible
  obtain ⟨htakes, hsetups⟩ := head_of_candidate hcandidate
  cases hqueue : o.queue with
  | take =>
    rw [takeRequest_take s hqueue]
    exact ⟨htakes hqueue, rfl, rfl⟩
  | setup =>
    rw [takeRequest_setup s hqueue]
    obtain ⟨hsetup, htake, hrun⟩ := leaveSetup_queues s.now (s.link o.link)
    exact ⟨(hsetups hqueue).trans (by rw [hsetup]), htake, hrun⟩

/-- Beyond its queues and the take-run counter a link changes by a RESUME alone (R119). -/
theorem takeRequest_changes {s : State} {o : Offer} {after : Link} (hafter : after = (s.takeRequest o).link o.link) :
    (o.queue = .take → after = { s.link o.link with takeQ := after.takeQ, takeRun := after.takeRun }) ∧
      (o.queue = .setup → after.setupQ.length = 8 → (s.link o.link).holdOff = true →
        after.SendsFrom { s.link o.link with setupQ := after.setupQ, takeRun := 0, holdOff := false } ∧
        after.outgoing = ((s.link o.link).line.map Prod.fst).toList ++
          ((if (s.link o.link).slot.isSome then [] else [.flow .resume]) ++ (s.link o.link).tx)) ∧
      (o.queue = .setup → after.setupQ.length ≠ 8 ∨ (s.link o.link).holdOff = false →
        after = { s.link o.link with setupQ := after.setupQ, takeRun := 0 }) := by
  obtain ⟨hsetup, -⟩ := leaveSetup_queues s.now (s.link o.link)
  refine ⟨fun hqueue => ?_, fun hqueue hlength hon => ?_, fun hqueue hquiet => ?_⟩
  · rw [hafter, takeRequest_take s hqueue]
    rfl
  · rw [takeRequest_setup s hqueue] at hafter
    subst hafter
    rw [hsetup] at hlength ⊢
    rw [leaveSetup_resume s.now hlength hon]
    exact ⟨flow_sends .., flow_outgoing ..⟩
  · rw [takeRequest_setup s hqueue] at hafter
    subst hafter
    rw [hsetup] at hquiet ⊢
    exact leaveSetup_quiet s.now hquiet

/-- Settles O1: the choice by `eligible_before_offer`, the leaving by `takeRequest_queues` and `takeRequest_changes`. -/
theorem arbiterServesTheFirstEligibleLink : Obligations.ArbiterServesTheFirstEligibleLink := by
  refine ⟨fun k ratio => ⟨candidate_noTake, fun r => candidate_take, fun r => candidate_setup⟩, need_table,
    fun s l => ⟨uncommitted_eq s l, eligible_iff s l, offer_eq_none_iff s⟩, fun s o h => ?_⟩
  obtain ⟨hrunning, heligible, hup⟩ := State.offer_spec h
  obtain ⟨-, -, hcandidate, hneed⟩ := State.eligible_spec heligible
  refine ⟨hrunning, hup, hcandidate, hneed, fun l => eligible_before_offer h, rfl,
    fun l => State.link_takeRequest_other s, takeRequest_queues h, fun after => takeRequest_changes, fun l hl hsome => ?_⟩
  refine distance_lt_of_behind s.pointer o.link l hl fun hbefore => ?_
  simp [eligible_before_offer h hbefore] at hsome

end Sys2Proof.PanelLinks
end

section
/-! An accepted RESET (R125, R137, R184): the running state at its defaults, and each link with its ACCEPT alone. -/

open Sys2Proof Sys2Proof.Machine

namespace Sys2Proof.PanelLinks

/-! ### What is left of a link (R125) -/

/-- The leaving of a request changes of its link the queues, the hold-off state, the take-run counter and what the link
has to send. -/
theorem takeRequest_link (s : State) (o : Offer) (l : LinkIx) : ∃ takeQ setupQ holdOff slot tx line takeRun,
    (s.takeRequest o).link l = { s.link l with takeQ, setupQ, holdOff, slot, tx, line, takeRun } := by
  by_cases hl : l = o.link
  · subst hl
    cases hqueue : o.queue with
    | take => exact ⟨_, _, _, _, _, _, _, takeRequest_take s hqueue⟩
    | setup =>
      rw [takeRequest_setup s hqueue]
      by_cases h : (s.link o.link).setupQ.tail.length = 8 ∧ (s.link o.link).holdOff = true
      · obtain ⟨hlength, hon⟩ := h
        rw [leaveSetup_resume s.now hlength hon, flow_sends]
        exact ⟨_, _, _, _, _, _, _, rfl⟩
      · rw [leaveSetup_quiet s.now ((not_and_or.mp h).imp_right (by simp))]
        exact ⟨_, _, _, _, _, _, _, rfl⟩
  · exact ⟨_, _, _, _, _, _, _, State.link_takeRequest_other s hl⟩

/-- A soft RESET clears all that the leaving of the request may have changed but the frame on the line. -/
theorem softReset_takeRequest (s : State) (o : Offer) (l : LinkIx) :
    ((s.takeRequest o).link l).softReset =
      { (s.link l).softReset with line := ((s.takeRequest o).link l).line } := by
  obtain ⟨takeQ, setupQ, holdOff, slot, tx, line, takeRun, hlink⟩ := takeRequest_link s o l
  rw [hlink]
  rfl

@[simp] theorem softReset_link (s : State) (l : LinkIx) : s.softReset.link l = (s.link l).softReset := pick_tab ..

theorem softReset_line (s : State) (n : LineIx) : s.softReset.line n =
    { s.line n with edge := false, dropped := false, driven := drivenLevel none (s.gpiMode n) (s.gpiArg n) } :=
  pick_tab ..

/-- Only the frame on the line outlives a soft RESET. -/
theorem softReset_outgoing (k : Link) : k.softReset.outgoing = (k.line.map Prod.fst).toList := by
  simp [Link.outgoing, Link.softReset]

/-- A frame placed leaves an empty slot empty (R119). -/
theorem place_slot_none {k : Link} (now : Micros) (f : TxFrame) (h : k.slot = none) : (k.place now f).slot = none := by
  have hqueues := k.place_queues now f
  unfold Link.Queues at hqueues
  split at hqueues
  · obtain ⟨-, -, -, hslot⟩ := hqueues
    rw [hslot, h, ite_self]
  · rw [hqueues, h]

/-! ### RESET (R137, R184) -/

/-- The state after an accepted RESET. -/
def resetServed (s : State) (o : Offer) : State := (s.takeRequest o).softReset.accept o .plain

theorem execReset_accepted {s : State} {o : Offer} (h : s.offer = some o) (hbody : o.body = .reset)
    (hv : s.verdict o = none) : exec .reset s = .next (resetServed s o) := by
  obtain ⟨l, q, tag, body⟩ := o
  subst hbody
  have hrefusal : (s.takeRequest ⟨l, q, tag, .reset⟩).elementsRefusal l [systemElement] = none := hv
  simp only [exec, execReset, h, State.serveReset, hrefusal]
  rfl

/-- The ACCEPT of a RESET is queued on its own link. -/
theorem resetServed_link (s : State) {o : Offer} (hbody : o.body = .reset) (l : LinkIx) :
    (resetServed s o).link l =
      if l = o.link then ((s.takeRequest o).link l).softReset.place s.now (.accept o.tag 0x12 .plain)
      else ((s.takeRequest o).link l).softReset := by
  split
  · rename_i hl
    subst hl
    rw [resetServed, State.accept, State.link_send_same, softReset_link, hbody]
    rfl
  · rename_i hl
    rw [resetServed, State.accept, State.link_send_other _ hl, softReset_link]

/-- Of a link a RESET keeps UP or DOWN, PRESENT and its measurement; what it has to send is said apart. -/
theorem resetServed_link_frame (s : State) {o : Offer} (hbody : o.body = .reset) (l : LinkIx) :
    (resetServed s o).link l = { (s.link l).softReset with
      slot := none, tx := ((resetServed s o).link l).tx, line := ((resetServed s o).link l).line } := by
  rw [resetServed_link s hbody l, softReset_takeRequest]
  split
  · have hslot := place_slot_none (k := { (s.link l).softReset with line := ((s.takeRequest o).link l).line }) s.now
      (.accept o.tag 0x12 .plain) rfl
    exact (Link.place_sends ..).trans (by rw [hslot])
  · rfl

/-- The ACCEPT of a RESET is the first frame of its link after the one on the line (R125, R137). -/
theorem resetServed_outgoing {s : State} {o : Offer} (h : s.offer = some o) (hbody : o.body = .reset) (l : LinkIx) :
    ((resetServed s o).link l).outgoing =
      (((s.takeRequest o).link l).line.map Prod.fst).toList ++
        if l = o.link then [.accept o.tag 0x12 .plain] else [] := by
  obtain ⟨-, -, hup⟩ := State.offer_spec h
  rw [resetServed_link s hbody l]
  split
  · rename_i hl
    have hup : ((s.takeRequest o).link l).softReset.up = true := by
      rw [hl]
      exact (State.takeRequest_up ..).trans hup
    rw [Link.place_outgoing s.now _ _ hup rfl, softReset_outgoing]
  · rw [softReset_outgoing, List.append_nil]

/-- Settles O10: the state beside the links by its definition, the links by `resetServed_link_frame` and
`resetServed_outgoing`. -/
theorem softResetKeepsConfigurationAndReference : Obligations.SoftResetKeepsConfigurationAndReference := by
  intro s o h hbody hv
  exact ⟨_, execReset_accepted h hbody hv, rfl, softReset_line (s.takeRequest o), resetServed_link_frame s hbody,
    resetServed_outgoing h hbody⟩

end Sys2Proof.PanelLinks
end

section
/-! The Field Reference Unit (R149 to R152): what a REF pulse is taken for, and the synthetic field start at the deadline
of either state. -/

open Sys2Proof Sys2Proof.Machine

namespace Sys2Proof.FieldReference

/-! ### The deadlines (R150, R151) -/

/-- A deadline that has not passed is the moment of its synthetic field start. -/
theorem synthetic_eq {s : State} (h : s.now ≤ s.ref.deadline) :
    s.synthetic = State.fieldStart { s with now := s.ref.deadline, ref := s.ref.syntheticStart } := by
  rw [State.synthetic, Nat.max_eq_right h]

theorem exec_lossDeadline {s : State} (h : s.ref.locked = true) : exec .lossDeadline s = .next s.synthetic :=
  congrArg Host.Outcome.next (if_pos h)

theorem exec_freerunDeadline {s : State} (h : s.ref.locked = false) : exec .freerunDeadline s = .next s.synthetic :=
  congrArg Host.Outcome.next (if_neg (Bool.eq_false_iff.mp h))

/-- Each state has its own deadline, and both make the same field start. -/
theorem exec_deadline (s : State) :
    (if s.ref.locked then exec .lossDeadline s else exec .freerunDeadline s) = .next s.synthetic := by
  cases h : s.ref.locked with
  | true => exact exec_lossDeadline h
  | false => exact exec_freerunDeadline h

/-! ### A REF pulse at the moment that stands (R149 to R152) -/

section
variable {s : State}

theorem pulse_spurious (h : s.now - s.ref.lastStart < Config.shortestField) :
    s.pulse = { s with ref := s.ref.spuriousPulse } :=
  if_pos h

/-- A pulse late enough not to be spurious is judged by the reference state. -/
theorem pulse_counted (h : Config.shortestField ≤ s.now - s.ref.lastStart) :
    s.pulse = if s.ref.locked then State.fieldStart { s with ref := s.ref.realStart s.now }
      else if s.ref.period / 2 ≤ s.now - s.ref.lastStart then State.fieldStart { s with ref := s.ref.relock s.now }
      else { s with ref := s.ref.absorb s.now } :=
  if_neg (Nat.not_lt.mpr h)

theorem pulse_real (h : Config.shortestField ≤ s.now - s.ref.lastStart) (hlocked : s.ref.locked = true) :
    s.pulse = State.fieldStart { s with ref := s.ref.realStart s.now } := by
  rw [pulse_counted h, if_pos hlocked]

theorem pulse_relock (h : Config.shortestField ≤ s.now - s.ref.lastStart) (hfree : s.ref.locked = false)
    (hhalf : s.ref.period / 2 ≤ s.now - s.ref.lastStart) :
    s.pulse = State.fieldStart { s with ref := s.ref.relock s.now } := by
  rw [pulse_counted h, if_neg (Bool.eq_false_iff.mp hfree), if_pos hhalf]

theorem pulse_absorbed (h : Config.shortestField ≤ s.now - s.ref.lastStart) (hfree : s.ref.locked = false)
    (hhalf : s.now - s.ref.lastStart < s.ref.period / 2) :
    s.pulse = { s with ref := s.ref.absorb s.now } := by
  rw [pulse_counted h, if_neg (Bool.eq_false_iff.mp hfree), if_neg (Nat.not_le.mpr hhalf)]

end

/-- REF_PULSE answers what the pulse makes of the state at its moment. -/
theorem exec_refPulse_eq {s t : State} {dt : Micros} (h : State.pulse { s with now := s.now + dt } = t) :
    exec (.refPulse dt) s = .next t :=
  congrArg Host.Outcome.next h

/-- Settles O36: the deadlines by `exec_deadline`, the pulses by the rule of each reference state. -/
theorem pulsesAndDeadlinesMakeFieldStarts : Obligations.PulsesAndDeadlinesMakeFieldStarts := by
  refine ⟨fun s h => ⟨_, (exec_deadline s).trans (congrArg Host.Outcome.next (synthetic_eq h)), rfl⟩, ?_⟩
  rintro s dt now elapsed rfl rfl
  refine ⟨fun hearly => ?spurious, fun hlate hlocked => ⟨_, rfl, ?real⟩, fun hlate hfree hhalf => ?relock,
    fun hlate hfree hhalf => ?absorbed⟩
  case spurious => exact exec_refPulse_eq (pulse_spurious hearly)
  case real => exact exec_refPulse_eq (pulse_real hlate hlocked)
  case relock => exact exec_refPulse_eq (pulse_relock hlate hfree hhalf)
  case absorbed => exact exec_refPulse_eq (pulse_absorbed hlate hfree hhalf)

end Sys2Proof.FieldReference
end

section
/-! What a byte brings the active job to, stage by stage (R163 to R166, R171). -/

open Sys2Proof Sys2Proof.Machine

namespace Sys2Proof.MemoryEngine

/-! ### Values of several bytes, the most significant first (R139) -/

theorem fromBytes_single (b : Byte) : fromBytes [b] = b.toNat := by simp [fromBytes]

theorem fromBytes_snoc (bs : List Byte) (b : Byte) : fromBytes (bs ++ [b]) = 256 * fromBytes bs + b.toNat := by
  simp [fromBytes, Nat.mul_comm]

/-- The value of three bytes (R139). -/
theorem fromBytes_triple (high middle low : Byte) :
    fromBytes [high, middle, low] = 65536 * high.toNat + 256 * middle.toNat + low.toNat := by
  have hsplit : fromBytes [high, middle, low] = 256 * fromBytes [high, middle] + low.toNat :=
    fromBytes_snoc [high, middle] low
  rw [hsplit, PanelLinks.fromBytes_pair]
  omega

/-- One byte more stands below the bytes before it. -/
theorem ofNat_fromBytes_snoc (n : Nat) (bs : List Byte) (b : Byte) :
    BitVec.ofNat (n + 8) (fromBytes (bs ++ [b])) = BitVec.ofNat n (fromBytes bs) ++ b := by
  apply BitVec.eq_of_toNat_eq
  have hb := b.isLt
  have hquotient : (256 * fromBytes bs + b.toNat) / 2 ^ 8 = fromBytes bs := by omega
  have hremainder : (256 * fromBytes bs + b.toNat) % 2 ^ 8 = b.toNat := by omega
  rw [fromBytes_snoc, BitVec.toNat_append, ← Nat.shiftLeft_add_eq_or_of_lt hb, Nat.shiftLeft_eq, BitVec.toNat_ofNat,
    BitVec.toNat_ofNat, Nat.pow_add, Nat.mul_comm (2 ^ n), Nat.mod_mul, hquotient, hremainder, Nat.add_comm,
    Nat.mul_comm]

/-- An address is its three bytes (R139). -/
theorem ofNat_fromBytes_triple (high middle low : Byte) :
    BitVec.ofNat 24 (fromBytes [high, middle, low]) = high ++ middle ++ low :=
  (ofNat_fromBytes_snoc 16 [high, middle] low).trans
    (congrArg (· ++ low) (PanelLinks.ofNat_fromBytes_pair high middle))

/-- A CRC-32 is its four bytes (R139). -/
theorem ofNat_fromBytes_quad (k3 k2 k1 k0 : Byte) :
    BitVec.ofNat 32 (fromBytes [k3, k2, k1, k0]) = k3 ++ k2 ++ k1 ++ k0 :=
  (ofNat_fromBytes_snoc 24 [k3, k2, k1] k0).trans (congrArg (· ++ k0) (ofNat_fromBytes_triple k3 k2 k1))

/-- A CRC-32 computed agrees with the four bytes read just where the two values do (R169). -/
theorem crc_toNat_eq_iff (v : BitVec 32) (k3 k2 k1 k0 : Byte) :
    v.toNat = fromBytes [k3, k2, k1, k0] ↔ v = k3 ++ k2 ++ k1 ++ k0 := by
  have hlt : fromBytes [k3, k2, k1, k0] < 2 ^ 32 := by
    have h3 := k3.isLt
    have h2 := k2.isLt
    have h1 := k1.isLt
    have h0 := k0.isLt
    simp only [fromBytes, List.foldl_cons, List.foldl_nil]
    omega
  rw [← ofNat_fromBytes_quad, ← BitVec.toNat_inj, BitVec.toNat_ofNat, Nat.mod_eq_of_lt hlt]

/-! ### The directory entry (R163) -/

theorem advance_directory (strapHigh : Bool) (access : Access) (data : Byte) {got : List Byte} (h : got.length < 9) :
    advance strapHigh access data (.directory got) = .readOn (.directory (got ++ [data])) (access.address + 1) :=
  if_pos (by omega)

/-- The tenth byte of a directory entry is judged with the others (R163). -/
theorem advance_directory_last (strapHigh : Bool) (access : Access) (data : Byte)
    (valid c2 c1 c0 l1 l0 k3 k2 k1 : Byte) :
    advance strapHigh access data (.directory [valid, c2, c1, c0, l1, l0, k3, k2, k1]) =
      if valid ≠ 0x01 then .failed .emptyReg
      else if 256 * l1.toNat + l0.toNat < 13 ∨ 45 < 256 * l1.toNat + l0.toNat then .failed .badRecord
      else .readOn (.chain (BitVec.ofNat 24 (65536 * c2.toNat + 256 * c1.toNat + c0.toNat))
          (256 * l1.toNat + l0.toNat) (k3 ++ k2 ++ k1 ++ data) [] [])
        (BitVec.ofNat 24 (65536 * c2.toNat + 256 * c1.toNat + c0.toNat)) := by
  have hread : advance strapHigh access data (.directory [valid, c2, c1, c0, l1, l0, k3, k2, k1]) =
      if [valid] ≠ [0x01] then .failed .emptyReg
      else if fromBytes [l1, l0] < 13 ∨ 45 < fromBytes [l1, l0] then .failed .badRecord
      else .readOn (.chain (BitVec.ofNat 24 (fromBytes [c2, c1, c0])) (fromBytes [l1, l0])
          (BitVec.ofNat 32 (fromBytes [k3, k2, k1, data])) [] []) (BitVec.ofNat 24 (fromBytes [c2, c1, c0])) := rfl
  rw [hread, PanelLinks.fromBytes_pair, fromBytes_triple, ofNat_fromBytes_quad]
  simp only [ne_eq, List.cons.injEq, and_true]

/-! ### The chain (R164) -/

theorem advance_chain (strapHigh : Bool) (access : Access) (data : Byte) (start : Address) (length : Nat)
    (crc : BitVec 32) (read : List Descriptor) {got : List Byte} (h : got.length < 7) :
    advance strapHigh access data (.chain start length crc read got) =
      .readOn (.chain start length crc read (got ++ [data])) (access.address + 1) :=
  if_pos (by omega)

/-- The eight bytes of a descriptor by their fields (R139). -/
theorem descriptorOf_bytes (a2 a1 a0 l1 l0 flags n1 n0 : Byte) :
    descriptorOf [a2, a1, a0, l1, l0, flags, n1, n0] =
      ⟨a2 ++ a1 ++ a0, 256 * l1.toNat + l0.toNat, flags.getLsbD 0, 256 * n1.toNat + n0.toNat⟩ := by
  have hfields : descriptorOf [a2, a1, a0, l1, l0, flags, n1, n0] =
      ⟨BitVec.ofNat 24 (fromBytes [a2, a1, a0]), fromBytes [l1, l0], (BitVec.ofNat 8 (fromBytes [flags])).getLsbD 0,
        fromBytes [n1, n0]⟩ := rfl
  rw [hfields, ofNat_fromBytes_triple, PanelLinks.fromBytes_pair, PanelLinks.fromBytes_pair, fromBytes_single,
    BitVec.ofNat_toNat, BitVec.setWidth_eq]

/-- The bytes to gather are as many as the lengths of the fragments say (R165). -/
theorem length_fragmentAddresses (read : List Descriptor) :
    (fragmentAddresses read).length = (read.map Descriptor.length).sum := by
  simp [fragmentAddresses, List.length_flatMap]

/-- A fragment is gathered after those before it, from its address upward (R165). -/
theorem getElem?_fragmentAddresses (before : List Descriptor) (d : Descriptor) (after : List Descriptor) {i : Nat}
    (h : i < d.length) :
    (fragmentAddresses (before ++ d :: after))[(before.map Descriptor.length).sum + i]? =
      some (d.fragment + BitVec.ofNat 24 i) := by
  have hsplit : fragmentAddresses (before ++ d :: after) = fragmentAddresses before ++
      ((List.range d.length).map (addressOn d.fragment) ++ fragmentAddresses after) := by
    simp only [fragmentAddresses, List.flatMap_append, List.flatMap_cons]
  rw [hsplit, ← length_fragmentAddresses, List.getElem?_append_right (Nat.le_add_right ..), Nat.add_sub_cancel_left,
    List.getElem?_append_left (by simpa using h), List.getElem?_map, List.getElem?_range h]
  rfl

/-- Of descriptors with bytes to gather, one is the first that has any. -/
theorem first_fragment {all : List Descriptor} (h : 0 < (all.map Descriptor.length).sum) :
    ∃ before d after, all = before ++ d :: after ∧ (∀ x ∈ before, x.length = 0) ∧ 0 < d.length := by
  induction all with
  | nil => cases h
  | cons e all ih =>
    by_cases he : e.length = 0
    · obtain ⟨before, d, after, hall, hempty, hd⟩ := ih (by simpa [he] using h)
      exact ⟨e :: before, d, after, by rw [hall]; rfl, List.forall_mem_cons.mpr ⟨he, hempty⟩, hd⟩
    · exact ⟨[], e, all, rfl, List.forall_mem_nil _, Nat.pos_of_ne_zero he⟩

/-- Gathering begins at the first fragment that has a byte (R165). -/
theorem fragmentAddresses_first {before : List Descriptor} {d : Descriptor} (after : List Descriptor)
    (hempty : ∀ x ∈ before, x.length = 0) (hd : 0 < d.length) :
    ∃ rest, fragmentAddresses (before ++ d :: after) = d.fragment :: rest := by
  have hsum : (before.map Descriptor.length).sum = 0 :=
    List.sum_eq_zero fun n hn => by
      obtain ⟨x, hx, rfl⟩ := List.mem_map.mp hn
      exact hempty x hx
  have hhead := getElem?_fragmentAddresses before d after hd
  rw [hsum, ← List.head?_eq_getElem?, BitVec.add_zero] at hhead
  exact List.head?_eq_some_iff.mp hhead

section
variable {start : Address} {length : Nat} {crc : BitVec 32} {read : List Descriptor} {got : List Byte}
  {all : List Descriptor}

/-- A last descriptor whose chain has not the record's length (R164). -/
theorem descriptorRead_wrongSum (hall : read ++ [descriptorOf got] = all) (hlast : (descriptorOf got).last = true)
    (hsum : (all.map Descriptor.length).sum ≠ length) :
    descriptorRead start length crc read got = .failed .badRecord := by
  simp only [descriptorRead, hall, hlast, if_true, if_pos hsum]

/-- A last descriptor whose chain has the record's length: the gathering begins (R164, R165). -/
theorem descriptorRead_gathers (hall : read ++ [descriptorOf got] = all) (hlast : (descriptorOf got).last = true)
    (hsum : (all.map Descriptor.length).sum = length) {a : Address} {rest : List Address}
    (hfirst : fragmentAddresses all = a :: rest) :
    descriptorRead start length crc read got = .readOn (.fragments length crc all []) a := by
  simp only [descriptorRead, hall, hlast, if_true, if_neg (not_not_intro hsum), hfirst]

/-- The eighth descriptor must be the last (R164). -/
theorem descriptorRead_tooMany (hall : read ++ [descriptorOf got] = all) (hlast : (descriptorOf got).last = false)
    (hmany : 8 ≤ all.length) : descriptorRead start length crc read got = .failed .badRecord := by
  simp only [descriptorRead, hall, hlast, Bool.false_eq_true, if_false, if_pos hmany]

/-- The next descriptor stands at the chain address plus this one's offset (R164). -/
theorem descriptorRead_follows (hall : read ++ [descriptorOf got] = all) (hlast : (descriptorOf got).last = false)
    (hfew : all.length < 8) :
    descriptorRead start length crc read got =
      .readOn (.chain start length crc all []) (start + BitVec.ofNat 24 (descriptorOf got).next) := by
  simp only [descriptorRead, hall, hlast, Bool.false_eq_true, if_false, if_neg (Nat.not_le.mpr hfew)]
  rfl

end

/-! ### The fragments and the check (R165) -/

theorem advance_fragments (strapHigh : Bool) (access : Access) (data : Byte) (length : Nat) (crc : BitVec 32)
    {before : List Descriptor} {d : Descriptor} {after : List Descriptor} {buffer : List Byte} {i : Nat}
    (hi : i < d.length) (hbuffer : buffer.length + 1 = (before.map Descriptor.length).sum + i) :
    advance strapHigh access data (.fragments length crc (before ++ d :: after) buffer) =
      .readOn (.fragments length crc (before ++ d :: after) (buffer ++ [data])) (d.fragment + BitVec.ofNat 24 i) := by
  simp only [advance, hbuffer, getElem?_fragmentAddresses before d after hi]

/-- A record passes when both its check and its CRC-32 do (R165). -/
theorem recordRead_eq (strapHigh : Bool) (crc : BitVec 32) (buffer : List Byte) :
    recordRead strapHigh crc buffer = match parseEffect strapHigh buffer with
      | some e => if crc32 buffer = crc then .staged e else .failed .badRecord
      | none => .failed .badRecord := by
  unfold recordRead
  by_cases hcrc : crc32 buffer = crc
  · rw [if_neg (not_not_intro hcrc)]
    cases parseEffect strapHigh buffer with
    | none => rfl
    | some e => exact (if_pos hcrc).symm
  · rw [if_pos hcrc]
    cases parseEffect strapHigh buffer with
    | none => rfl
    | some e => exact (if_neg hcrc).symm

/-- The last byte of the last fragment brings the record to its check (R165). -/
theorem advance_fragments_last (strapHigh : Bool) (access : Access) (data : Byte) (length : Nat) (crc : BitVec 32)
    {read : List Descriptor} {buffer : List Byte} (h : (read.map Descriptor.length).sum = buffer.length + 1) :
    advance strapHigh access data (.fragments length crc read buffer) = recordRead strapHigh crc (buffer ++ [data]) := by
  have hend : (fragmentAddresses read)[buffer.length + 1]? = none :=
    List.getElem?_eq_none (by rw [length_fragmentAddresses, h])
  simp only [advance, hend]

/-! ### The configuration block (R171) -/

theorem advance_loading_head (strapHigh : Bool) (access : Access) (data : Byte) {got : List Byte}
    (h : got.length < 2) :
    advance strapHigh access data (.loading got) =
      .readOn (.loading (got ++ [data])) (BitVec.ofNat 24 (got.length + 1)) := by
  have hlength : (got ++ [data]).length = got.length + 1 := List.length_append
  simp only [advance, blockRead, hlength, if_pos (show got.length + 1 < 3 by omega)]

section
variable {x y count : Byte} {rest : List Byte}

/-- With the signature and the count read, the finding depends on them (R171). -/
theorem blockRead_cons (x y count : Byte) (rest : List Byte) :
    blockRead (x :: y :: count :: rest) =
      if ¬ (x = 0x5A ∧ y = 0xC3) ∨ 80 < count.toNat then .loaded none
      else if rest.length < 3 * count.toNat + 4 then
        .readOn (.loading (x :: y :: count :: rest)) (BitVec.ofNat 24 (rest.length + 3))
      else if (crc32 (x :: y :: count :: rest.take (3 * count.toNat))).toNat =
          fromBytes ((rest.drop (3 * count.toNat)).take 4) then
        .loaded (some (blockEntries (rest.take (3 * count.toNat))))
      else .loaded none := by
  have hsignature : slice (x :: y :: count :: rest) 0 2 = [x, y] := rfl
  have hcount : fromBytes (slice (x :: y :: count :: rest) 2 1) = count.toNat := fromBytes_single count
  have hlength : (x :: y :: count :: rest).length = rest.length + 3 := rfl
  have hcovered : ∀ n, slice (x :: y :: count :: rest) 0 (3 + n) = x :: y :: count :: rest.take n := fun n => by
    rw [Nat.add_comm]
    rfl
  have hcrc : ∀ n, slice (x :: y :: count :: rest) (3 + n) 4 = (rest.drop n).take 4 := fun n => by
    rw [Nat.add_comm]
    rfl
  have hitems : ∀ n, slice (x :: y :: count :: rest) 3 (3 + n - 3) = rest.take n := fun n => by
    rw [Nat.add_sub_cancel_left]
    rfl
  have hread : ¬ rest.length + 3 < 3 := by omega
  have hon : rest.length + 3 < 3 + 3 * count.toNat + 4 ↔ rest.length < 3 * count.toNat + 4 := by omega
  simp only [blockRead, blockLength, hcount, hsignature, hlength, hcovered, hcrc, hitems, if_neg hread, hon, ne_eq,
    List.cons.injEq, and_true]

/-- A wrong signature or a count above 80 ends the load at its third byte (R171). -/
theorem blockRead_bad (rest : List Byte) (h : x ≠ 0x5A ∨ y ≠ 0xC3 ∨ 80 < count.toNat) :
    blockRead (x :: y :: count :: rest) = .loaded none := by
  rw [blockRead_cons, if_pos]
  rwa [not_and_or, or_assoc]

theorem blockRead_on (hcount : count.toNat ≤ 80) (hrest : rest.length < 3 * count.toNat + 4) :
    blockRead (0x5A :: 0xC3 :: count :: rest) =
      .readOn (.loading (0x5A :: 0xC3 :: count :: rest)) (BitVec.ofNat 24 (rest.length + 3)) := by
  rw [blockRead_cons, if_neg (by simpa using hcount), if_pos hrest]

/-- The whole block is judged by its CRC-32 over signature, count and items (R171). -/
theorem blockRead_end (hcount : count.toNat ≤ 80) {items : List Byte} (hitems : items.length = 3 * count.toNat)
    (k3 k2 k1 k0 : Byte) :
    blockRead (0x5A :: 0xC3 :: count :: (items ++ [k3, k2, k1, k0])) =
      if crc32 (0x5A :: 0xC3 :: count :: items) = k3 ++ k2 ++ k1 ++ k0 then .loaded (some (blockEntries items))
      else .loaded none := by
  have hlength : ¬ (items ++ [k3, k2, k1, k0]).length < 3 * count.toNat + 4 := by
    rw [List.length_append, hitems]
    exact Nat.lt_irrefl _
  rw [blockRead_cons, if_neg (by simpa using hcount), if_neg hlength, List.take_left' hitems, List.drop_left' hitems]
  exact if_congr (crc_toNat_eq_iff ..) rfl rfl

end

/-- The items of a block: three bytes each, a number and its value (R139). -/
theorem blockEntries_bytes {items : List Byte} {n : Nat} (h : items.length = 3 * n) :
    (blockEntries items).length = n ∧ ∀ i < n, (blockEntries items)[i]? =
      some ((items.getD (3 * i) 0).toNat, items.getD (3 * i + 1) 0 ++ items.getD (3 * i + 2) 0) := by
  induction n generalizing items with
  | zero =>
    obtain rfl := List.length_eq_zero_iff.mp h
    exact ⟨rfl, fun i hi => absurd hi (Nat.not_lt_zero i)⟩
  | succ n ih =>
    obtain ⟨number, high, low, rest, rfl⟩ : ∃ number high low rest, items = number :: high :: low :: rest := by
      match items, h with
      | number :: high :: low :: rest, _ => exact ⟨number, high, low, rest, rfl⟩
    obtain ⟨hlength, hentries⟩ := ih (items := rest) (by simp only [List.length_cons] at h; omega)
    rw [blockEntries, PanelLinks.ofNat_fromBytes_pair]
    refine ⟨congrArg (· + 1) hlength, fun i hi => ?_⟩
    cases i with
    | zero => rfl
    | succ i => exact hentries i (by omega)

end Sys2Proof.MemoryEngine
end

section
/-! MEMORY_READY (R159, R161, R162; log 31): whose ready it is, and what the job that ends leaves. -/

open Sys2Proof Sys2Proof.Machine Sys2Proof.TransitionController Sys2Proof.TransitionArithmetic

namespace Sys2Proof.MemoryEngine

/-! ### Whose ready it is (R159, R162; log 31) -/

/-- The expiry of an access stands at its own moment, or now if that has passed. -/
theorem expired_now {s : State} {access : Access} (hport : s.engine.port = some access) :
    s.expired.now = max s.now (access.raised + 64) := by
  cases hstage : s.engine.stage with
  | none => simp only [State.expired, hport, hstage, State.drained, State.reach]
  | some stage =>
    simp only [State.expired, hport, hstage]
    exact (Schedule.jobFailed_engine _ _).2

/-- A ready after the 64 µs finds the access failed, and is ignored. -/
theorem readyIn_late {s : State} {data : Byte} {dt : Micros} {access : Access} (hport : s.engine.port = some access)
    (hlate : access.raised + 64 < s.now + dt) :
    s.readyIn data dt = { s.expired with now := s.now + dt } := by
  rw [s.readyIn_access data dt access hport, if_pos hlate]
  refine reach_eq ?_
  rw [expired_now hport]
  exact Nat.max_le.mpr ⟨Nat.le_add_right .., Nat.le_of_lt hlate⟩

section
variable {s : State} {data : Byte} {dt : Micros} {access : Access}

theorem readyIn_inTime (hport : s.engine.port = some access) (hnow : s.now + dt ≤ access.raised + 64) :
    s.readyIn data dt = (s.after dt).ready data := by
  rw [s.readyIn_access data dt access hport, if_neg (Nat.not_lt.mpr hnow)]

/-- The access of an abandoned job ends with nothing but the next job (R162). -/
theorem readyIn_abandoned (hport : s.engine.port = some access) (hnow : s.now + dt ≤ access.raised + 64)
    (hstage : s.engine.stage = none) : s.readyIn data dt = (s.after dt).drained := by
  have hport' : (s.after dt).engine.port = some access := hport
  have hstage' : (s.after dt).engine.stage = none := hstage
  rw [readyIn_inTime hport hnow]
  simp only [State.ready, hport', hstage']

/-- A ready in time brings the active job what its stage makes of the byte (R159). -/
theorem readyIn_active {stage : Stage} {p : Progress} (hport : s.engine.port = some access)
    (hnow : s.now + dt ≤ access.raised + 64) (hstage : s.engine.stage = some stage)
    (hp : advance s.strapHigh access data stage = p) :
    s.readyIn data dt = (s.after dt).portIdle.carryOn p := by
  have hport' : (s.after dt).engine.port = some access := hport
  have hstage' : (s.after dt).engine.stage = some stage := hstage
  rw [readyIn_inTime hport hnow, ← hp]
  simp only [State.ready, hport', hstage']
  rfl

end

/-! ### The job that ends (R86, R87, R161, R166, R168, R170, R183) -/

/-- The job that ends leaves the queue, and the next one has its first access on the port (R161). -/
theorem finishJob_ends {t : State} {j : Job} {jobs : List Job} (hport : t.engine.port = none)
    (hjobs : t.engine.jobs = j :: jobs) :
    t.finishJob.engine.jobs = jobs ∧ t.finishJob.engine.FirstAccess t.finishJob.now t.finishJob.items := by
  refine ⟨?_, Schedule.finishJob_firstAccess hport⟩
  rw [State.finishJob, Schedule.activate_jobs, hjobs]
  rfl

section
variable {s : State} {jobs : List Job}

theorem jobWritten_store {l : LinkIx} {tag : Byte} {b : BankIx} {r : Nat} {record : List Byte}
    (hjobs : s.engine.jobs = .store l tag b r record :: jobs) :
    s.jobWritten = s.notify (.link l tag) .done (some b) := by
  simp only [State.jobWritten, hjobs]
  rfl

theorem jobWritten_save {l : LinkIx} {tag : Byte} (hjobs : s.engine.jobs = .save l tag :: jobs) :
    s.jobWritten = State.send { s with cfgDefault := false } l (.notice tag .done none) := by
  simp only [State.jobWritten, hjobs]

theorem jobStaged_recall {b : BankIx} {r : Nat} {o : Origin} (hjobs : s.engine.jobs = .recallEffect b r o :: jobs)
    (e : Effect) : s.jobStaged e = s.recallStaged b e := by
  simp only [State.jobStaged, hjobs]

theorem jobFailed_recall {b : BankIx} {r : Nat} {o : Origin} (hjobs : s.engine.jobs = .recallEffect b r o :: jobs)
    (reason : Reason) : s.jobFailed reason = s.recallFailed b o reason := by
  simp only [State.jobFailed, hjobs]

end

/-! ### Start-up (R183) -/

/-- Start-up writes the items, the lines and the two marks of its outcome, and nothing else. -/
theorem startUp_frame (s : State) (outcome : Option (List (Nat × BitVec 16))) :
    s.startUp outcome = { s with
      items := (s.startUp outcome).items, lines := (s.startUp outcome).lines, running := true
      cfgDefault := outcome.isNone } := by
  cases outcome with
  | none => rfl
  | some entries =>
    induction entries using List.reverseRecOn with
    | nil => rfl
    | append_singleton before entry ih =>
      rw [startUp_snoc, loadItem_frame, ih]
      rfl

/-- Storing an item does not look at the time or at the Memory Engine. -/
theorem loadItem_elsewhere (s : State) (now : Micros) (g : Engine) (entry : Nat × BitVec 16) :
    State.loadItem { s with now := now, engine := g } entry = { s.loadItem entry with now := now, engine := g } := by
  have hvalue : State.itemValue { s with now := now, engine := g } entry.1 entry.2 =
      s.itemValue entry.1 entry.2 := rfl
  unfold State.loadItem
  rw [hvalue]
  split
  · split <;> rfl
  · rfl

/-- Start-up does not look at the time or at the Memory Engine. -/
theorem startUp_elsewhere (s : State) (now : Micros) (g : Engine) (outcome : Option (List (Nat × BitVec 16))) :
    State.startUp { s with now := now, engine := g } outcome = { s.startUp outcome with now := now, engine := g } := by
  cases outcome with
  | none => rfl
  | some entries =>
    induction entries using List.reverseRecOn with
    | nil => rfl
    | append_singleton before entry ih => rw [startUp_snoc, startUp_snoc, ih, loadItem_elsewhere]

/-! ### The active job (R159 to R171, R183) -/

section
variable {s : State} {data : Byte} {dt : Micros} {access : Access} {stage : Stage} {jobs : List Job}

/-- The last write of a STORE: NOTICE DONE to its link (R168). -/
theorem ready_storeWritten (hport : s.engine.port = some access) (hnow : s.now + dt ≤ access.raised + 64)
    (hstage : s.engine.stage = some (.writing [])) {l : LinkIx} {tag : Byte} {b : BankIx} {r : Nat}
    {record : List Byte} (hjobs : s.engine.jobs = .store l tag b r record :: jobs) :
    ∃ t, exec (.memoryReady data dt) s = .next t ∧
      t = { s with now := s.now + dt, engine := t.engine, links := t.links } ∧ t.engine.jobs = jobs ∧
      t.engine.FirstAccess t.now t.items ∧ s.NoticeSent t (.link l tag) .done b := by
  have hready : s.readyIn data dt = ((s.after dt).portIdle.notify (.link l tag) .done (some b)).finishJob :=
    (readyIn_active hport hnow hstage rfl).trans
      (congrArg State.finishJob (jobWritten_store (s := (s.after dt).portIdle) hjobs))
  obtain ⟨hleft, hfirst⟩ :=
    finishJob_ends (t := (s.after dt).portIdle.notify (.link l tag) .done (some b)) rfl hjobs
  exact ⟨_, congrArg Host.Outcome.next hready, rfl, hleft, hfirst,
    Schedule.notify_noticeSent (s.after dt).portIdle (.link l tag) .done b⟩

/-- The last write of a SAVE-CONFIG: CFGDEFAULT clear and NOTICE DONE to its link (R170, R183). -/
theorem ready_saveWritten (hport : s.engine.port = some access) (hnow : s.now + dt ≤ access.raised + 64)
    (hstage : s.engine.stage = some (.writing [])) {l : LinkIx} {tag : Byte}
    (hjobs : s.engine.jobs = .save l tag :: jobs) :
    ∃ t, exec (.memoryReady data dt) s = .next t ∧
      t = { s with now := s.now + dt, engine := t.engine, links := t.links, cfgDefault := false } ∧
      t.engine.jobs = jobs ∧ t.engine.FirstAccess t.now t.items ∧ (∀ m, m ≠ l → t.link m = s.link m) ∧
      (s.link l).Queues t.now (.notice tag .done none) (t.link l) := by
  have hready : s.readyIn data dt = (State.send { (s.after dt).portIdle with cfgDefault := false } l
      (.notice tag .done none)).finishJob :=
    (readyIn_active hport hnow hstage rfl).trans
      (congrArg State.finishJob (jobWritten_save (s := (s.after dt).portIdle) hjobs))
  obtain ⟨hleft, hfirst⟩ := finishJob_ends
    (t := State.send { (s.after dt).portIdle with cfgDefault := false } l (.notice tag .done none)) rfl hjobs
  have hlink := State.link_send_same { (s.after dt).portIdle with cfgDefault := false } l (.notice tag .done none)
  exact ⟨_, congrArg Host.Outcome.next hready, rfl, hleft, hfirst,
    fun m hm => State.link_send_other { (s.after dt).portIdle with cfgDefault := false } hm _,
    hlink ▸ Link.place_queues (s.now + dt) (.notice tag .done none) (s.link l)⟩

/-- A recall's record passes its check: it is staged, and its entry marked STAGED (R86, R166). -/
theorem ready_recallStaged (hport : s.engine.port = some access) (hnow : s.now + dt ≤ access.raised + 64)
    (hstage : s.engine.stage = some stage) {b : BankIx} {r : Nat} {o : Origin} {e : Effect}
    (hjobs : s.engine.jobs = .recallEffect b r o :: jobs)
    (hstaged : advance s.strapHigh access data stage = .staged e) :
    ∃ t, exec (.memoryReady data dt) s = .next t ∧
      t = { s with now := s.now + dt, engine := t.engine, schedule := s.schedule.map (markStaged b)
                   banks := upd s.banks b fun k => { k with staging := some e } } ∧
      t.engine.jobs = jobs ∧ t.engine.FirstAccess t.now t.items := by
  have hready : s.readyIn data dt = ((s.after dt).portIdle.recallStaged b e).finishJob :=
    (readyIn_active hport hnow hstage hstaged).trans
      (congrArg State.finishJob (jobStaged_recall (s := (s.after dt).portIdle) hjobs e))
  exact ⟨_, congrArg Host.Outcome.next hready, rfl,
    finishJob_ends (t := (s.after dt).portIdle.recallStaged b e) rfl hjobs⟩

/-- A recall that fails: its entry removed and its origin told (R87). -/
theorem ready_recallFailed (hport : s.engine.port = some access) (hnow : s.now + dt ≤ access.raised + 64)
    (hstage : s.engine.stage = some stage) {b : BankIx} {r : Nat} {o : Origin} {reason : Reason}
    (hjobs : s.engine.jobs = .recallEffect b r o :: jobs)
    (hfailed : advance s.strapHigh access data stage = .failed reason) :
    ∃ t, exec (.memoryReady data dt) s = .next t ∧
      t = { s with now := s.now + dt, engine := t.engine, links := t.links
                   schedule := s.schedule.filter fun e => !e.isRecallOf b } ∧
      t.engine.jobs = jobs ∧ t.engine.FirstAccess t.now t.items ∧ s.NoticeSent t o reason b := by
  have hready : s.readyIn data dt = ((s.after dt).portIdle.recallFailed b o reason).finishJob :=
    (readyIn_active hport hnow hstage hfailed).trans
      (congrArg State.finishJob (jobFailed_recall (s := (s.after dt).portIdle) hjobs reason))
  have hengine : ((s.after dt).portIdle.recallFailed b o reason).engine = (s.after dt).portIdle.engine := by
    rw [← jobFailed_recall (s := (s.after dt).portIdle) hjobs]
    exact (Schedule.jobFailed_engine _ _).1
  obtain ⟨hleft, hfirst⟩ := finishJob_ends (t := (s.after dt).portIdle.recallFailed b o reason)
    (congrArg Engine.port hengine) ((congrArg Engine.jobs hengine).trans hjobs)
  exact ⟨_, congrArg Host.Outcome.next hready, rfl, hleft, hfirst,
    Schedule.notify_noticeSent { (s.after dt).portIdle with
      schedule := s.schedule.filter fun e => !e.isRecallOf b } o reason b⟩

/-- The load ends: start-up takes its finding, and the part is RUNNING (R171, R183). -/
theorem ready_loaded (hport : s.engine.port = some access) (hnow : s.now + dt ≤ access.raised + 64)
    (hstage : s.engine.stage = some stage) {entries : Option (List (Nat × BitVec 16))}
    (hjobs : s.engine.jobs = .load :: jobs) (hloaded : advance s.strapHigh access data stage = .loaded entries) :
    ∃ t, exec (.memoryReady data dt) s = .next t ∧
      t = { s with now := s.now + dt, engine := t.engine, items := t.items, lines := t.lines, running := true
                   cfgDefault := entries.isNone } ∧
      t.engine.jobs = jobs ∧ t.engine.FirstAccess t.now t.items ∧
      (entries = none → t.items = s.items ∧ t.lines = s.lines) ∧
      t.items = (s.startUp entries).items ∧ t.lines = (s.startUp entries).lines := by
  have hstarted : (s.after dt).portIdle.startUp entries =
      { s.startUp entries with now := s.now + dt, engine := { s.engine with port := none } } :=
    startUp_elsewhere s (s.now + dt) { s.engine with port := none } entries
  have hready : s.readyIn data dt = State.finishJob
      { s.startUp entries with now := s.now + dt, engine := { s.engine with port := none } } :=
    (readyIn_active hport hnow hstage hloaded).trans (congrArg State.finishJob hstarted)
  obtain ⟨hleft, hfirst⟩ := finishJob_ends
    (t := { s.startUp entries with now := s.now + dt, engine := { s.engine with port := none } }) rfl hjobs
  refine ⟨_, congrArg Host.Outcome.next hready, ?_, hleft, hfirst, ?_, rfl, rfl⟩
  · rw [startUp_frame s entries]
    rfl
  · rintro rfl
    exact ⟨rfl, rfl⟩

end

/-! ### Every stage and every job -/

/-- Settles O49: each stage by its rule of `advance`, then each ready by whose it is, and the active job by its kind. -/
theorem readyTakesTheActiveJobOn : Obligations.ReadyTakesTheActiveJobOn := by
  refine ⟨fun strapHigh access data => ⟨fun got => advance_directory strapHigh access data, ?directoryLast,
    fun start length crc read got => advance_chain strapHigh access data start length crc read, ?chainLast,
    ?fragments, fun got => advance_loading_head strapHigh access data, ?block⟩, fun s data dt => ⟨?idle, ?late,
    ?abandoned, fun access stage hport hnow hstage => ⟨?readOn, ?writeOn, ?store, ?save, ?staged, ?failed, ?loaded⟩⟩⟩
  case directoryLast =>
    rintro valid c2 c1 c0 l1 l0 k3 k2 k1 start length rfl rfl
    exact advance_directory_last ..
  case chainLast =>
    rintro start length crc read a2 a1 a0 l1 l0 flags n1 hpos all hall
    rw [← descriptorOf_bytes] at hall
    have hlast : (descriptorOf [a2, a1, a0, l1, l0, flags, n1, data]).last = flags.getLsbD 0 := by
      rw [descriptorOf_bytes]
    have hnext : (descriptorOf [a2, a1, a0, l1, l0, flags, n1, data]).next = 256 * n1.toNat + data.toNat := by
      rw [descriptorOf_bytes]
    refine ⟨fun h hsum => descriptorRead_wrongSum hall.symm (hlast.trans h) hsum, fun h hsum => ?_,
      fun h hmany => descriptorRead_tooMany hall.symm (hlast.trans h) hmany, fun h hfew => ?_⟩
    · obtain ⟨before, d, after, hsplit, hempty, hd⟩ := first_fragment (hsum ▸ hpos)
      obtain ⟨rest, hfirst⟩ := fragmentAddresses_first after hempty hd
      exact ⟨before, d, after, hsplit, hempty, hd,
        descriptorRead_gathers hall.symm (hlast.trans h) hsum (hsplit ▸ hfirst)⟩
    · rw [← hnext]
      exact descriptorRead_follows hall.symm (hlast.trans h) hfew
  case fragments =>
    refine fun length crc read buffer => ⟨?_, fun hsum => ?_⟩
    · rintro before d after i rfl hi hbuffer
      exact advance_fragments strapHigh access data length crc hi hbuffer
    · exact (advance_fragments_last strapHigh access data length crc hsum).trans (recordRead_eq ..)
  case block =>
    intro got rest x y count hgot
    have hread : advance strapHigh access data (.loading got) = blockRead (x :: y :: count :: rest) :=
      congrArg blockRead hgot
    have hlength : got.length + 1 = rest.length + 3 := by
      simpa using congrArg List.length hgot
    rw [hread, hgot, hlength]
    refine ⟨blockRead_bad rest, ?_⟩
    rintro rfl rfl hcount
    refine ⟨blockRead_on hcount, ?_⟩
    rintro items k3 k2 k1 k0 rfl hitems
    rw [blockRead_end hcount hitems]
    split
    · exact ⟨_, rfl, blockEntries_bytes hitems⟩
    · rfl
  case idle => exact fun hport => congrArg Host.Outcome.next (s.readyIn_idle data dt hport)
  case late => exact fun access hport hlate => ⟨s.expired, rfl, congrArg Host.Outcome.next (readyIn_late hport hlate)⟩
  case abandoned =>
    exact fun access hport hnow hstage =>
      ⟨_, congrArg Host.Outcome.next (readyIn_abandoned hport hnow hstage), rfl, Schedule.activate_jobs ..,
        Schedule.activate_firstAccess (g := { s.engine with port := none }) hstage rfl ..⟩
  case readOn => exact fun next a hp => congrArg Host.Outcome.next (readyIn_active hport hnow hstage hp)
  case writeOn =>
    rintro a v rest rfl
    exact congrArg Host.Outcome.next (readyIn_active hport hnow hstage rfl)
  case store =>
    rintro l tag b r record jobs hjobs rfl
    exact ready_storeWritten hport hnow hstage hjobs
  case save =>
    rintro l tag jobs hjobs rfl
    exact ready_saveWritten hport hnow hstage hjobs
  case staged => exact fun b r o jobs e => ready_recallStaged hport hnow hstage
  case failed => exact fun b r o jobs reason => ready_recallFailed hport hnow hstage
  case loaded => exact fun jobs entries => ready_loaded hport hnow hstage

end Sys2Proof.MemoryEngine
end

section
/-! The filters of the GPI lines and their accepted edges (R173, R174, R180). -/

open Sys2Proof Sys2Proof.Machine Sys2Proof.TransitionController

namespace Sys2Proof.GpiLines

/-! ### A line's mode (R180) -/

theorem edgeMatches_iff (mode : BitVec 16) (level : Bool) :
    edgeMatches mode level = true ↔ mode.toNat / 16 % 4 = 0 ∧ level = true ∨ mode.toNat / 16 % 4 = 1 ∧ level = false ∨
      mode.toNat / 16 % 4 = 2 := by
  unfold edgeMatches
  split
  case h_1 hrising => simp [hrising]
  case h_2 hfalling => simp [hfalling]
  case h_3 hboth => simp [hboth]
  case h_4 h0 h1 h2 =>
    rw [Bool.false_eq_true, false_iff]
    rintro (⟨h, -⟩ | ⟨h, -⟩ | h)
    exacts [h0 h, h1 h, h2 h]

/-! ### Changes of one line -/

theorem modLine_congr {s : State} {n : LineIx} {f g : GpiLine → GpiLine} (h : f (s.line n) = g (s.line n)) :
    s.modLine n f = s.modLine n g :=
  congrArg (fun g => { s with lines := s.lines.set n.val g n.isLt }) h

theorem modLine_modLine (s : State) (n : LineIx) (f g : GpiLine → GpiLine) :
    (s.modLine n f).modLine n g = s.modLine n fun l => g (f l) := by
  simp [State.modLine, upd, pick]

/-! ### Accepted edges (R174) -/

/-- A line that has accepted its pin's level, its edge flag set if the edge is active (R173, R174). -/
def accept (active : Bool) (g : GpiLine) : GpiLine :=
  { g with accepted := g.pin, timer := none, edge := g.edge || active }

theorem acceptEdge_eq {s : State} {n : LineIx} {active : Bool}
    (hactive : active = edgeMatches (s.gpiMode n) (s.line n).pin) :
    s.acceptEdge n = if active then (s.modLine n (accept active)).gpiAction n else s.modLine n (accept active) := by
  subst hactive
  have haccept : s.modLine n (accept (edgeMatches (s.gpiMode n) (s.line n).pin)) = s.modLine n fun g =>
      { g with accepted := (s.line n).pin, timer := none
               edge := g.edge || edgeMatches (s.gpiMode n) (s.line n).pin } := modLine_congr rfl
  rw [haccept]
  rfl

/-! ### A change of the pin (R173) -/

section
variable {s : State} {n : LineIx} {level : Bool}

theorem pinChange_out (hout : modeOut (s.gpiMode n) = true) :
    s.pinChange n level = s.modLine n fun g => { g with pin := level } :=
  if_pos hout

/-- On an IN line the pin's new level is judged by the accepted level. -/
theorem pinChange_in (hin : modeOut (s.gpiMode n) = false) :
    s.pinChange n level =
      if level = (s.line n).accepted then s.modLine n fun g => { g with pin := level, timer := none }
      else if filterTime (s.gpiMode n) = 0 then (s.modLine n fun g => { g with pin := level }).acceptEdge n
      else s.modLine n fun g =>
        { g with pin := level, timer := some (g.timer.getD (s.now + filterTime (s.gpiMode n))) } :=
  if_neg (Bool.eq_false_iff.mp hin)

theorem pinChange_agrees (hin : modeOut (s.gpiMode n) = false) (hlevel : level = (s.line n).accepted) :
    s.pinChange n level = s.modLine n fun g => { g with pin := level, timer := none } := by
  rw [pinChange_in hin, if_pos hlevel]

theorem pinChange_filtered (hin : modeOut (s.gpiMode n) = false) (hlevel : level ≠ (s.line n).accepted)
    (hfilter : 0 < filterTime (s.gpiMode n)) :
    s.pinChange n level = s.modLine n fun g =>
      { g with pin := level, timer := some (g.timer.getD (s.now + filterTime (s.gpiMode n))) } := by
  rw [pinChange_in hin, if_neg hlevel, if_neg (Nat.ne_of_gt hfilter)]

theorem pinChange_unfiltered (hin : modeOut (s.gpiMode n) = false) (hlevel : level ≠ (s.line n).accepted)
    (hfilter : filterTime (s.gpiMode n) = 0) :
    s.pinChange n level = (s.modLine n fun g => { g with pin := level }).acceptEdge n := by
  rw [pinChange_in hin, if_neg hlevel, if_pos hfilter]

/-- With filter 0 the pin's change and the accepted edge are one change of the line. -/
theorem acceptEdge_pinned {active : Bool} (hactive : active = edgeMatches (s.gpiMode n) level) :
    (s.modLine n fun g => { g with pin := level }).acceptEdge n =
      if active then (s.modLine n fun g => accept active { g with pin := level }).gpiAction n
      else s.modLine n fun g => accept active { g with pin := level } := by
  have hpinned : active = edgeMatches (s.gpiMode n) ((s.modLine n fun g => { g with pin := level }).line n).pin := by
    rw [State.line_modLine_same, hactive]
  rw [acceptEdge_eq hpinned, modLine_modLine]

end

/-! ### The two commands -/

/-- GPI_PIN_CHANGE answers what the pin's change makes of the state at its moment. -/
theorem exec_gpiPinChange {s t : State} {n : LineIx} {level : Bool} {dt : Micros}
    (h : State.pinChange { s with now := s.now + dt } n level = t) : exec (.gpiPinChange n level dt) s = .next t :=
  congrArg Host.Outcome.next h

/-- GPI_FILTER_EXPIRY accepts the pin's level at the moment of the expiry. -/
theorem exec_gpiFilterExpiry {s : State} {n : LineIx} {m : Micros} (htimer : (s.line n).timer = some m)
    (hnow : s.now ≤ m) : exec (.gpiFilterExpiry n) s = .next (State.acceptEdge { s with now := m } n) := by
  rw [← reach_eq hnow]
  simp only [exec, execGpiFilterExpiry, htimer]

/-- Settles O53: the mode by its bits, each pin change by its rule of `pinChange`, and the accepted edges by
`acceptEdge_eq` and `acceptEdge_pinned`. -/
theorem gpiPinsAreFilteredThenAccepted : Obligations.GpiPinsAreFilteredThenAccepted := by
  refine ⟨fun mode level => ⟨modeOut_iff mode, Nat.mul_comm .., edgeMatches_iff mode level⟩, fun s n level dt =>
    ⟨fun hout => ?out, fun hin hlevel => ?agrees, fun hin hlevel hfilter => ?filtered, fun m htimer hnow => ?expired,
      fun hin hlevel hfilter => ?unfiltered⟩⟩
  case out => exact exec_gpiPinChange (pinChange_out hout)
  case agrees => exact exec_gpiPinChange (pinChange_agrees hin hlevel)
  case filtered => exact exec_gpiPinChange (pinChange_filtered hin hlevel hfilter)
  case expired => exact ⟨_, exec_gpiFilterExpiry htimer hnow, _, _, rfl, rfl, acceptEdge_eq rfl⟩
  case unfiltered =>
    exact ⟨_, exec_gpiPinChange (pinChange_unfiltered hin hlevel hfilter), _, _, rfl, rfl, acceptEdge_pinned rfl⟩

end Sys2Proof.GpiLines
end

section
/-! The commands waiting and the time: every operation on the state but the passing of time itself leaves both as they
are. -/

open Sys2Proof Sys2Proof.Machine

namespace Sys2Proof.MomentAndQueue

/-! ### One moment -/

/-- The commands waiting and the moment of the last command: what every operation but the passing of time leaves. -/
def clock (s : State) : List Instr × Micros := (s.pending, s.now)

theorem clock_eq_iff {s t : State} : clock t = clock s ↔ t.pending = s.pending ∧ t.now = s.now := Prod.mk_inj

/-! ### Claims, settling and the schedule list -/

@[simp] theorem clock_linkLost (s : State) (l : LinkIx) : clock (s.linkLost l) = clock s := rfl

@[simp] theorem clock_settle (s : State) (l : LinkIx) : clock (s.settle l) = clock s := by
  unfold State.settle
  split
  · rfl
  · exact clock_linkLost s l

@[simp] theorem clock_supersede (s : State) (b : BankIx) : clock (s.supersede b) = clock s := by
  unfold State.supersede
  split <;> rfl

@[simp] theorem clock_insertRecall (s : State) (due : FieldNo) (o : Origin) (b : BankIx) (register : Nat) :
    clock (s.insertRecall due o b register) = clock s :=
  clock_supersede s b

/-! ### Requests (R126 to R137) -/

@[simp] theorem clock_takeRequest (s : State) (o : Offer) : clock (s.takeRequest o) = clock s := rfl

@[simp] theorem clock_refuse (s : State) (o : Offer) (reason : Reason) (holder : Option LinkIx) :
    clock (s.refuse o reason holder) = clock s := rfl

@[simp] theorem clock_accept (s : State) (o : Offer) (info : Accepted) : clock (s.accept o info) = clock s := rfl

@[simp] theorem clock_useElements (s : State) (p : LinkIx) (es : List ElemIx) :
    clock (s.useElements p es) = clock s := rfl

@[simp] theorem clock_schedulePlan (s : State) (o : Offer) (p : Plan) (lead : Byte) :
    clock (s.schedulePlan o p lead) = clock s :=
  clock_settle ..

@[simp] theorem clock_serveScheduled (s : State) (o : Offer) (plan : Except Reason Plan) (lead : Byte) :
    clock (s.serveScheduled o plan lead) = clock s := by
  unfold State.serveScheduled
  split
  · rfl
  split
  · rfl
  split
  · rfl
  · exact clock_schedulePlan ..

@[simp] theorem clock_scheduleRecall (s : State) (o : Offer) (b : BankIx) (register : Nat) (lead : Byte) :
    clock (s.scheduleRecall o b register lead) = clock s := by
  simp [State.scheduleRecall]

@[simp] theorem clock_serveRecall (s : State) (o : Offer) (bank register lead : Byte) :
    clock (s.serveRecall o bank register lead) = clock s := by
  unfold State.serveRecall
  split
  · rfl
  split
  · rfl
  split
  · rfl
  split
  · rfl
  · exact clock_scheduleRecall ..

@[simp] theorem clock_serveLever (s : State) (o : Offer) (bank : Byte) (position : Nat) :
    clock (s.serveLever o bank position) = clock s := by
  unfold State.serveLever
  split
  · rfl
  split
  · rfl
  · exact clock_settle ..

@[simp] theorem clock_serveClaim (s : State) (o : Offer) (element : Byte) :
    clock (s.serveClaim o element) = clock s := by
  unfold State.serveClaim
  split
  · rfl
  split
  · rfl
  · exact clock_settle ..

@[simp] theorem clock_serveRelease (s : State) (o : Offer) (element : Byte) :
    clock (s.serveRelease o element) = clock s := by
  unfold State.serveRelease
  split
  · rfl
  split <;> rfl

@[simp] theorem clock_serveBreak (s : State) (o : Offer) (element : Byte) :
    clock (s.serveBreak o element) = clock s := by
  unfold State.serveBreak
  split
  · rfl
  split
  · rfl
  split
  · rfl
  split
  · rfl
  split <;> rfl

@[simp] theorem clock_serveStore (s : State) (o : Offer) (bank register : Byte) :
    clock (s.serveStore o bank register) = clock s := by
  unfold State.serveStore
  split
  · rfl
  split
  · rfl
  split <;> rfl

@[simp] theorem clock_serveSave (s : State) (o : Offer) : clock (s.serveSave o) = clock s := by
  unfold State.serveSave
  split
  · rfl
  split
  · rfl
  · exact clock_settle ..

@[simp] theorem clock_serveCancel (s : State) (o : Offer) (tag : Byte) : clock (s.serveCancel o tag) = clock s := by
  unfold State.serveCancel
  dsimp only
  split <;> rfl

@[simp] theorem clock_pruneAfter (s : State) (number : Nat) : clock (s.pruneAfter number) = clock s := by
  unfold State.pruneAfter
  split <;> rfl

@[simp] theorem clock_serveConfig (s : State) (o : Offer) (item : Byte) (value : BitVec 16) :
    clock (s.serveConfig o item value) = clock s := by
  unfold State.serveConfig
  split
  · rfl
  split
  · rfl
  · exact (clock_settle ..).trans (clock_pruneAfter ..)

@[simp] theorem clock_serveReset (s : State) (o : Offer) : clock (s.serveReset o) = clock s := by
  unfold State.serveReset
  split <;> rfl

/-! ### Queries (R136) -/

@[simp] theorem clock_serveQueryBank (s : State) (o : Offer) (argument : Byte) :
    clock (s.serveQueryBank o argument) = clock s := by
  unfold State.serveQueryBank
  split <;> rfl

@[simp] theorem clock_serveQueryClaims (s : State) (o : Offer) (argument : Byte) :
    clock (s.serveQueryClaims o argument) = clock s := by
  unfold State.serveQueryClaims
  split <;> rfl

@[simp] theorem clock_serveQueryGpi (s : State) (o : Offer) (argument : Byte) :
    clock (s.serveQueryGpi o argument) = clock s := by
  unfold State.serveQueryGpi
  split
  · rfl
  split <;> rfl

@[simp] theorem clock_serveQueryConfig (s : State) (o : Offer) (argument : Byte) :
    clock (s.serveQueryConfig o argument) = clock s := by
  unfold State.serveQueryConfig
  split <;> rfl

/-- A query takes no time where the serving of its subject takes none. -/
theorem clock_queryOf (s : State) (subject : Byte) {serve : State → Offer → Byte → State}
    (hserve : ∀ t o a, clock (serve t o a) = clock t) : clock (s.queryOf subject serve) = clock s := by
  unfold State.queryOf
  split
  · dsimp only
    split
    · exact hserve ..
    split <;> rfl
  · rfl

/-! ### The sweep (R76 to R84) -/

@[simp] theorem clock_settleSweep (s : State) : clock s.settleSweep = clock s := by
  unfold State.settleSweep
  split
  · split <;> rfl
  · rfl

@[simp] theorem clock_refuseEntry (s : State) (e : Entry) (reason : Reason) :
    clock (s.refuseEntry e reason) = clock s := by
  unfold State.refuseEntry
  dsimp only
  split <;> rfl

@[simp] theorem clock_applyEntry (s : State) (w : Sweep) (e : Entry) (count : Nat) (note : Option Reason) :
    clock (s.applyEntry w e count note) = clock s := by
  unfold State.applyEntry
  split <;> rfl

@[simp] theorem clock_dealEntry (s : State) (w : Sweep) (e : Entry) (left rest : List Entry) :
    clock (s.dealEntry w e left rest) = clock s := by
  unfold State.dealEntry
  split
  · rfl
  · exact clock_refuseEntry ..
  · exact clock_applyEntry ..

@[simp] theorem clock_dealMember (s : State) (w : Sweep) (e : Entry) (judged : Judgement) :
    clock (s.dealMember w e judged) = clock s := by
  cases judged with
  | refuse reason => exact clock_refuseEntry ..
  | holdBack => rfl
  | goAhead count note => exact clock_applyEntry ..

/-- Operations one after another take no time where none of them takes any. -/
theorem clock_foldl {α : Type} {f : State → α → State} (hf : ∀ t x, clock (f t x) = clock t) (s : State)
    (xs : List α) : clock (xs.foldl f s) = clock s := by
  induction xs generalizing s with
  | nil => rfl
  | cons x xs ih => exact (ih (f s x)).trans (hf s x)

@[simp] theorem clock_dealSet (s : State) (w : Sweep) (members left rest : List Entry) :
    clock (s.dealSet w members left rest) = clock s := by
  unfold State.dealSet
  split
  · exact clock_foldl (fun t e => clock_refuseEntry t e .busy) _ _
  split
  · rfl
  · exact clock_foldl (fun t (m : Entry × Judgement) => clock_dealMember t w m.1 m.2) _ _

/-! ### The field (R13, R142, R149 to R153) -/

@[simp] theorem clock_fieldStart (s : State) : clock s.fieldStart = clock s := clock_settleSweep _

@[simp] theorem clock_pulse (s : State) : clock s.pulse = clock s := by
  unfold State.pulse
  dsimp only
  split
  · rfl
  split
  · exact clock_fieldStart _
  split
  · exact clock_fieldStart _
  · rfl

@[simp] theorem clock_updateBank (s : State) (b : BankIx) (n : FieldNo) : clock (s.updateBank b n) = clock s := by
  unfold State.updateBank State.gather
  dsimp only
  split <;> rfl

/-! ### The Memory Engine (R86, R87, R159 to R171, R183) -/

@[simp] theorem clock_loadItem (s : State) (entry : Nat × BitVec 16) : clock (s.loadItem entry) = clock s := by
  unfold State.loadItem
  split
  · split <;> rfl
  · rfl

@[simp] theorem clock_startUp (s : State) (outcome : Option (List (Nat × BitVec 16))) :
    clock (s.startUp outcome) = clock s := by
  cases outcome with
  | none => rfl
  | some entries => exact clock_foldl clock_loadItem s entries

@[simp] theorem clock_finishJob (s : State) : clock s.finishJob = clock s := rfl

@[simp] theorem clock_jobFailed (s : State) (reason : Reason) : clock (s.jobFailed reason) = clock s := by
  unfold State.jobFailed
  split
  case h_4 => exact clock_startUp s none
  all_goals rfl

@[simp] theorem clock_jobWritten (s : State) : clock s.jobWritten = clock s := by
  unfold State.jobWritten
  split <;> rfl

@[simp] theorem clock_jobStaged (s : State) (e : Effect) : clock (s.jobStaged e) = clock s := by
  unfold State.jobStaged
  split <;> rfl

@[simp] theorem clock_carryOn (s : State) (p : Progress) : clock (s.carryOn p) = clock s := by
  cases p with
  | readOn stage a => rfl
  | writeOn writes => rfl
  | failed reason => exact clock_jobFailed s reason
  | staged e => exact clock_jobStaged s e
  | written => exact clock_jobWritten s
  | loaded entries => exact clock_startUp s entries

@[simp] theorem clock_ready (s : State) (data : Byte) : clock (s.ready data) = clock s := by
  unfold State.ready
  split
  · rfl
  · rfl
  · exact clock_carryOn ..

/-! ### GPI lines (R173 to R175) -/

@[simp] theorem clock_gpiTake (s : State) (n : LineIx) (action : Action) : clock (s.gpiTake n action) = clock s := by
  unfold State.gpiTake
  dsimp only
  split
  · rfl
  split <;> rfl

@[simp] theorem clock_gpiRecall (s : State) (n : LineIx) : clock (s.gpiRecall n) = clock s := by
  unfold State.gpiRecall
  dsimp only
  split
  · rfl
  split
  · rfl
  split
  · rfl
  · exact clock_insertRecall ..

@[simp] theorem clock_gpiAction (s : State) (n : LineIx) : clock (s.gpiAction n) = clock s := by
  unfold State.gpiAction
  split
  · exact clock_gpiTake ..
  · exact clock_gpiTake ..
  · exact clock_gpiTake ..
  · exact clock_gpiRecall ..
  · rfl

@[simp] theorem clock_acceptEdge (s : State) (n : LineIx) : clock (s.acceptEdge n) = clock s := by
  unfold State.acceptEdge
  dsimp only
  split
  · exact clock_gpiAction ..
  · rfl

@[simp] theorem clock_pinChange (s : State) (n : LineIx) (level : Bool) : clock (s.pinChange n level) = clock s := by
  unfold State.pinChange
  dsimp only
  split
  · rfl
  split
  · rfl
  split
  · exact clock_acceptEdge ..
  · rfl

end Sys2Proof.MomentAndQueue
end

section
/-! Every command answers a next state, with the commands waiting kept and the time going forward; and a step runs the
command at the front. -/

open Sys2Proof Sys2Proof.Machine

namespace Sys2Proof.MomentAndQueue

/-! ### The passing of time -/

/-- `t` comes after `s`: the same commands wait, and the time has not gone back. -/
structure Onward (s t : State) : Prop where
  pending : t.pending = s.pending
  now : s.now ≤ t.now

theorem Onward.refl (s : State) : Onward s s := ⟨rfl, Nat.le_refl _⟩

/-- An operation at one moment comes after whatever the state it works on does. -/
theorem Onward.atOnce {r s t : State} (h : Onward r s) (hclock : clock t = clock s) : Onward r t := by
  obtain ⟨hpending, hnow⟩ := clock_eq_iff.mp hclock
  exact ⟨hpending.trans h.pending, hnow ▸ h.now⟩

theorem onward_of_clock {s t : State} (h : clock t = clock s) : Onward s t := (Onward.refl s).atOnce h

theorem Onward.trans {r s t : State} (h : Onward r s) (h' : Onward s t) : Onward r t :=
  ⟨h'.pending.trans h.pending, Nat.le_trans h.now h'.now⟩

theorem onward_after (s : State) (dt : Micros) : Onward s (s.after dt) := ⟨rfl, Nat.le_add_right ..⟩

theorem onward_reach (s : State) (moment : Micros) : Onward s (s.reach moment) := ⟨rfl, Nat.le_max_left ..⟩

/-- A synthetic field start stands at its deadline (R150, R151). -/
theorem onward_synthetic (s : State) : Onward s s.synthetic :=
  (onward_reach s s.ref.deadline).atOnce (clock_fieldStart _)

theorem onward_byteIn (s : State) (l : LinkIx) (y : RxByte) (dt : Micros) : Onward s (s.byteIn l y dt) :=
  (onward_after s dt).atOnce rfl

theorem onward_bytesIn (s : State) (l : LinkIx) (bytes : List RxByte) (dt : Micros) :
    Onward s (s.bytesIn l bytes dt) := by
  induction bytes generalizing s dt with
  | nil => exact onward_after s dt
  | cons y rest ih =>
    cases rest with
    | nil => exact onward_byteIn s l y dt
    | cons z rest => exact (onward_byteIn s l y dt).trans (ih _ Config.linkByteTime)

/-- An access that fails does so at the end of its 64 µs (R159). -/
theorem onward_expired (s : State) : Onward s s.expired := by
  unfold State.expired
  split
  · exact .refl s
  · exact (onward_reach ..).atOnce rfl
  · exact (onward_reach ..).atOnce (clock_jobFailed ..)

theorem onward_readyIn (s : State) (data : Byte) (dt : Micros) : Onward s (s.readyIn data dt) := by
  unfold State.readyIn
  split
  · exact (onward_expired s).trans (onward_reach ..)
  · exact (onward_after s dt).atOnce (clock_ready ..)

/-! ### Commands -/

/-- A command answers a next state that comes after the one it was given. -/
def AnswersOnward (s : State) (a : Answer) : Prop := ∃ t, a = .next t ∧ Onward s t

theorem answersOnward_next {s t : State} (h : Onward s t) : AnswersOnward s (.next t) := ⟨t, rfl, h⟩

/-- What a command whose cause does not stand answers (log 1). -/
theorem answersOnward_idle (s : State) : AnswersOnward s (.next s) := answersOnward_next (.refl s)

theorem execLinkUp_onward (l : LinkIx) (s : State) : AnswersOnward s (execLinkUp l s) := by
  unfold execLinkUp
  split
  · exact answersOnward_next ((onward_reach ..).atOnce rfl)
  · exact answersOnward_idle s

theorem execLinkDown_onward (l : LinkIx) (s : State) : AnswersOnward s (execLinkDown l s) := by
  unfold execLinkDown
  split
  · exact answersOnward_next ((onward_reach ..).atOnce rfl)
  · exact answersOnward_idle s

theorem execInterbyteTimeout_onward (l : LinkIx) (s : State) : AnswersOnward s (execInterbyteTimeout l s) := by
  unfold execInterbyteTimeout
  split
  · exact answersOnward_next ((onward_reach ..).atOnce rfl)
  · exact answersOnward_idle s

theorem execTransmitEnd_onward (l : LinkIx) (s : State) : AnswersOnward s (execTransmitEnd l s) := by
  unfold execTransmitEnd
  split
  · exact answersOnward_next ((onward_reach ..).atOnce rfl)
  · exact answersOnward_idle s

theorem execLossDeadline_onward (s : State) : AnswersOnward s (execLossDeadline s) := by
  refine answersOnward_next ?_
  split
  · exact onward_synthetic s
  · exact .refl s

theorem execFreerunDeadline_onward (s : State) : AnswersOnward s (execFreerunDeadline s) := by
  refine answersOnward_next ?_
  split
  · exact .refl s
  · exact onward_synthetic s

theorem execSweepEntry_onward (s : State) : AnswersOnward s (execSweepEntry s) := by
  unfold execSweepEntry
  split
  · exact answersOnward_idle s
  split
  · exact answersOnward_next (onward_of_clock rfl)
  split
  · exact answersOnward_next (onward_of_clock ((clock_settleSweep _).trans (clock_dealEntry ..)))
  · exact answersOnward_idle s

theorem execSweepLinkedSet_onward (s : State) : AnswersOnward s (execSweepLinkedSet s) := by
  unfold execSweepLinkedSet
  split
  · exact answersOnward_idle s
  split
  · exact answersOnward_idle s
  split
  · exact answersOnward_idle s
  · exact answersOnward_next (onward_of_clock ((clock_settleSweep _).trans (clock_dealSet ..)))

theorem execFieldUpdate_onward (b : BankIx) (s : State) : AnswersOnward s (execFieldUpdate b s) := by
  unfold execFieldUpdate
  split
  · exact answersOnward_next (onward_of_clock (clock_updateBank ..))
  · exact answersOnward_idle s

theorem execParameterRecordSent_onward (s : State) : AnswersOnward s (execParameterRecordSent s) := by
  unfold execParameterRecordSent
  split
  · exact answersOnward_next ((onward_reach ..).atOnce rfl)
  · exact answersOnward_idle s

theorem execTallyFrameSent_onward (s : State) : AnswersOnward s (execTallyFrameSent s) := by
  unfold execTallyFrameSent
  split
  · exact answersOnward_next ((onward_reach ..).atOnce rfl)
  · exact answersOnward_idle s

theorem execGpiFilterExpiry_onward (n : LineIx) (s : State) : AnswersOnward s (execGpiFilterExpiry n s) := by
  unfold execGpiFilterExpiry
  split
  · exact answersOnward_next ((onward_reach ..).atOnce (clock_acceptEdge ..))
  · exact answersOnward_idle s

/-- A query is served, or left, at the moment that stands. -/
theorem answersOnward_query (s : State) (subject : Byte) {serve : State → Offer → Byte → State}
    (hserve : ∀ t o a, clock (serve t o a) = clock t) : AnswersOnward s (.next (s.queryOf subject serve)) :=
  answersOnward_next (onward_of_clock (clock_queryOf s subject hserve))

/-- Every command but POWER_ON answers a state that comes after. -/
theorem exec_onward {c : Instr} (hpower : ∀ high, c ≠ .powerOn high) (s : State) : AnswersOnward s (exec c s) := by
  cases c with
  | powerOn high => exact absurd rfl (hpower high)
  | presentChange l asserted dt => exact answersOnward_next ((onward_after s dt).atOnce rfl)
  | linkUp l => exact execLinkUp_onward l s
  | linkDown l => exact execLinkDown_onward l s
  | frameArrival l bytes dt => exact answersOnward_next (onward_bytesIn s l bytes dt)
  | byteArrival l byte dt => exact answersOnward_next (onward_byteIn s l byte dt)
  | interbyteTimeout l => exact execInterbyteTimeout_onward l s
  | transmitEnd l => exact execTransmitEnd_onward l s
  | queryBank => exact answersOnward_query s _ fun t o a => clock_serveQueryBank t o a
  | queryClaims => exact answersOnward_query s _ fun t o a => clock_serveQueryClaims t o a
  | querySchedule => exact answersOnward_query s _ fun t o a => rfl
  | queryLink => exact answersOnward_query s _ fun t o a => rfl
  | queryGpi => exact answersOnward_query s _ fun t o a => clock_serveQueryGpi t o a
  | queryConfig => exact answersOnward_query s _ fun t o a => clock_serveQueryConfig t o a
  | queryField => exact answersOnward_query s _ fun t o a => rfl
  | refPulse dt => exact answersOnward_next ((onward_after s dt).atOnce (clock_pulse _))
  | lossDeadline => exact execLossDeadline_onward s
  | freerunDeadline => exact execFreerunDeadline_onward s
  | sweepEntry => exact execSweepEntry_onward s
  | sweepLinkedSet => exact execSweepLinkedSet_onward s
  | fieldUpdate b => exact execFieldUpdate_onward b s
  | parameterRecordSent => exact execParameterRecordSent_onward s
  | tallyFrameSent => exact execTallyFrameSent_onward s
  | memoryReady data dt => exact answersOnward_next (onward_readyIn s data dt)
  | memoryTimeout => exact answersOnward_next (onward_expired s)
  | gpiPinChange n level dt => exact answersOnward_next ((onward_after s dt).atOnce (clock_pinChange ..))
  | gpiFilterExpiry n => exact execGpiFilterExpiry_onward n s
  | select | cut | auto | hold | keyCut | keySetup | transSetup | layers =>
    simp only [exec, execSelect, execCut, execAuto, execHold, execKeyCut, execKeySetup, execTransSetup, execLayers]
    split
    · exact answersOnward_next (onward_of_clock (clock_serveScheduled ..))
    · exact answersOnward_idle s
  | malformedFrame | lever | claim | release | breakLock | recallEffect | store | cancel | config | saveConfig
  | reset =>
    simp only [exec, execMalformedFrame, execLever, execClaim, execRelease, execBreakLock, execRecall, execStore,
      execCancel, execConfig, execSaveConfig, execReset]
    split
    · exact answersOnward_next (onward_of_clock (by simp))
    · exact answersOnward_idle s

/-- Settles O39: POWER_ON takes the commands waiting over into the state it leaves; the passing of time and every
operation at one moment keep them and never take the time back, so any other command does as well. -/
theorem everyCommandAnswersANextState : Obligations.EveryCommandAnswersANextState := by
  intro c s
  by_cases hpower : ∃ high, c = .powerOn high
  · obtain ⟨high, rfl⟩ := hpower
    exact ⟨_, rfl, rfl, fun hother => absurd rfl (hother high)⟩
  · obtain ⟨t, hexec, honward⟩ := exec_onward (not_exists.mp hpower) s
    exact ⟨t, hexec, honward.pending, fun _ => honward.now⟩

/-! ### A step -/

theorem step_of_pending_cons {s : State} {c : Instr} {rest : List Instr} (h : s.pending = c :: rest) :
    step s = exec c { s with pending := rest } := by
  simp only [step, h]

theorem step_of_pending_nil {s : State} (h : s.pending = []) : step s = .next s := by
  simp only [step, h]

/-- Settles O38: the two cases of the queue. -/
theorem stepRunsTheFrontCommand : Obligations.StepRunsTheFrontCommand :=
  ⟨fun _ _ _ => step_of_pending_cons rfl, fun _ h => step_of_pending_nil h⟩

end Sys2Proof.MomentAndQueue
end

section
/-! Re-entry (R16, R17): what is reached through four banks is reached in few steps, so that the bounded searches of the
model find all of it. -/

open Sys2Proof Sys2Proof.Machine

namespace Sys2Proof.Reentry

/-! ### Reaching a goal in a bounded number of steps -/

/-- A goal is met within some number of steps along a relation. -/
def Within {α : Type} (next : α → α → Prop) (goal : α → Prop) : Nat → α → Prop
  | 0, x => goal x
  | k + 1, x => goal x ∨ ∃ y, next x y ∧ Within next goal k y

section
variable {α : Type} {next : α → α → Prop} {goal : α → Prop}

theorem within_of_goal {x : α} (h : goal x) : ∀ k, Within next goal k x
  | 0 => h
  | _ + 1 => .inl h

theorem within_succ {k : Nat} {x : α} (h : Within next goal k x) : Within next goal (k + 1) x := by
  induction k generalizing x with
  | zero => exact .inl h
  | succ k ih =>
    obtain h | ⟨y, hxy, hy⟩ := h
    · exact .inl h
    · exact .inr ⟨y, hxy, ih hy⟩

/-- A number of steps that one more does not help is all that is needed. -/
theorem within_of_stable {k : Nat} (hk : ∀ x, Within next goal (k + 1) x → Within next goal k x) (m : Nat) {x : α}
    (h : Within next goal m x) : Within next goal k x := by
  induction m generalizing x with
  | zero => exact within_of_goal h k
  | succ m ih =>
    obtain h | ⟨y, hxy, hy⟩ := h
    · exact within_of_goal h k
    · exact hk x (.inr ⟨y, hxy, ih hy⟩)

open Classical in
/-- Each step that helps reaches one more of finitely many places. -/
theorem within_stable_or_card [Fintype α] (k : Nat) :
    (∀ x, Within next goal (k + 1) x → Within next goal k x) ∨
      k + 2 ≤ (Finset.univ.filter (Within next goal (k + 1))).card := by
  have grows : ∀ k, ¬ (∀ x, Within next goal (k + 1) x → Within next goal k x) →
      (Finset.univ.filter (Within next goal k)).card < (Finset.univ.filter (Within next goal (k + 1))).card := by
    intro k hk
    push Not at hk
    obtain ⟨x, hx, hnot⟩ := hk
    refine Finset.card_lt_card (Finset.ssubset_iff_of_subset ?_ |>.mpr ⟨x, by simpa using hx, by simpa using hnot⟩)
    exact fun y hy => by simpa using within_succ (by simpa using hy)
  rw [or_iff_not_imp_left]
  induction k with
  | zero =>
    intro hk
    have hgrows := grows 0 hk
    have hgoal : 0 < (Finset.univ.filter (Within next goal 0)).card := by
      push Not at hk
      obtain ⟨x, hx, hnot⟩ := hk
      obtain hx | ⟨y, -, hy⟩ := hx
      · exact absurd hx hnot
      · exact Finset.card_pos.mpr ⟨y, by simpa using hy⟩
    omega
  | succ k ih =>
    intro hk
    have hgrows := grows (k + 1) hk
    have hbefore := ih fun hstable => hk fun x hx => within_succ (within_of_stable hstable _ hx)
    omega

/-- Among `n + 1` places every goal that can be met is met within `n` steps. -/
theorem within_of_card [Fintype α] {n : Nat} (hcard : Fintype.card α ≤ n + 1) (m : Nat) {x : α}
    (h : Within next goal m x) : Within next goal n x := by
  classical
  obtain hstable | hmany := within_stable_or_card (next := next) (goal := goal) n
  · exact within_of_stable hstable m h
  · have := Finset.card_le_univ (Finset.univ.filter (Within next goal (n + 1)))
    omega

end

/-! ### Re-entry codes (R1) -/

theorem reentered_eq_some {c : Source} {d : BankIx} : reentered c = some d ↔ c = meCode d := by
  unfold reentered meCode
  split
  · rw [Option.some.injEq, Fin.ext_iff, Fin.ext_iff]
    dsimp only
    omega
  · rw [Fin.ext_iff]
    dsimp only
    constructor
    · intro h; cases h
    · intro h; omega

/-! ### The dependency closure (R17) -/

theorem mem_buses {r : BankRecord} {c : Source} :
    c ∈ r.buses ↔ c = r.a ∨ c = r.b ∨ ∃ k, c = (r.keyer k).fill ∨ c = (r.keyer k).key := by
  simp [BankRecord.buses]

theorem mem_reentries {r : BankRecord} {d : BankIx} : d ∈ r.reentries ↔ meCode d ∈ r.buses := by
  simp [BankRecord.reentries, reentered_eq_some]

/-- The re-entries of a bank are the codes on its ten buses (R17). -/
theorem busCarries_iff {s : State} {c d : BankIx} : s.BusCarries c d ↔ d ∈ (s.working c).reentries := by
  have hcode : ∀ x : Source, x.val = 51 + d.val ↔ meCode d = x := fun x => by
    rw [Fin.ext_iff]; exact eq_comm
  rw [mem_reentries, mem_buses]
  simp only [State.BusCarries, hcode, BankRecord.keyer]

theorem reaches_iff {s : State} {fuel : Nat} {c b : BankIx} :
    reaches s.banks fuel c b = true ↔ Within s.BusCarries (· = b) fuel c := by
  induction fuel generalizing c with
  | zero => simp [reaches, Within]
  | succ fuel ih => simp [reaches, Within, ih, busCarries_iff, State.working, State.bank]

theorem within_of_dependsOn {s : State} {c b : BankIx} (h : DependsOn s c b) :
    ∃ k, Within s.BusCarries (· = b) k c := by
  induction h with
  | itself => exact ⟨0, rfl⟩
  | through hcd _ ih =>
    obtain ⟨k, hk⟩ := ih
    exact ⟨k + 1, .inr ⟨_, hcd, hk⟩⟩

theorem dependsOn_of_within {s : State} {c b : BankIx} {k : Nat} (h : Within s.BusCarries (· = b) k c) :
    DependsOn s c b := by
  induction k generalizing c with
  | zero => exact h ▸ .itself
  | succ k ih =>
    obtain h | ⟨d, hcd, hd⟩ := h
    · exact h ▸ .itself
    · exact .through hcd (ih hd)

/-- The closure that the loop test searches is that of R17: four banks need no more steps. -/
theorem inClosure_iff (s : State) (c b : BankIx) : s.inClosure c b = true ↔ DependsOn s c b := by
  rw [State.inClosure, reaches_iff]
  refine ⟨dependsOn_of_within, fun h => ?_⟩
  obtain ⟨k, hk⟩ := within_of_dependsOn h
  exact within_of_card (by simp) k hk

theorem inClosure_eq_false (s : State) (c b : BankIx) : s.inClosure c b = false ↔ ¬ DependsOn s c b := by
  rw [← inClosure_iff, Bool.not_eq_true]

end Sys2Proof.Reentry
end

section
/-! The tally (R16, R140, R143 to R147): what a bank contributes, what it carries through re-entry, and the marks of a
resolution. -/

open Sys2Proof Sys2Proof.Machine Sys2Proof.TransitionController

namespace Sys2Proof.Reentry

/-! ### Contributors (R16, R144) -/

theorem mem_contribution {y : Keyer} {counts : Bool} {c : Source} :
    c ∈ y.contribution counts ↔ counts = true ∧ (c = y.fill ∨ c = y.key ∧ y.kind = .linear) := by
  cases counts
  · simp [Keyer.contribution]
  · by_cases hkind : y.kind = .linear <;> simp [Keyer.contribution, hkind]

theorem mem_contributors {r : BankRecord} {c : Source} :
    c ∈ r.contributors ↔ c = r.a ∨ (c = r.b ∧ r.phase ≠ .idle ∧ hasBkgd r.layers = true) ∨
      ∃ k, ((r.keyer k).onAir = true ∨ hasKey r.layers k = true ∧ r.phase ≠ .idle) ∧
        (c = (r.keyer k).fill ∨ c = (r.keyer k).key ∧ (r.keyer k).kind = .linear) := by
  have hb : c ∈ (if r.phase ≠ .idle ∧ hasBkgd r.layers = true then [r.b] else []) ↔
      c = r.b ∧ r.phase ≠ .idle ∧ hasBkgd r.layers = true := by
    rw [List.mem_ite_nil_right, List.mem_singleton, and_comm]
  simp only [BankRecord.contributors, List.mem_cons, List.mem_append, List.mem_flatMap, mem_indices, true_and,
    mem_contribution, Bool.or_eq_true, Bool.and_eq_true, isRunning_iff, hb]

theorem mem_previewContributors {r : BankRecord} {c : Source} :
    c ∈ r.previewContributors ↔ c = (if hasBkgd r.layers = true then r.b else r.a) ∨
      ∃ k, (r.keyer k).onAir ≠ hasKey r.layers k ∧
        (c = (r.keyer k).fill ∨ c = (r.keyer k).key ∧ (r.keyer k).kind = .linear) := by
  simp only [BankRecord.previewContributors, List.mem_cons, List.mem_flatMap, mem_indices, true_and, mem_contribution,
    bne_iff_ne]

/-! ### Contribution through re-entry (R16) -/

theorem mem_expand_succ {banks : Vector Bank 4} {fuel : Nat} {cs : List Source} {c : Source} :
    c ∈ expand banks (fuel + 1) cs ↔
      c ∈ cs ∨ ∃ d, meCode d ∈ cs ∧ c ∈ expand banks fuel (pick banks d).published.contributors := by
  simp [expand, reentered_eq_some]

/-- A bank re-enters another with its published state. -/
def PublishedReenters (s : State) (b d : BankIx) : Prop := meCode d ∈ (s.published b).contributors

theorem mem_expand_iff_within {s : State} {fuel : Nat} {b : BankIx} {c : Source} :
    c ∈ expand s.banks fuel (s.published b).contributors ↔
      Within (PublishedReenters s) (fun d => c ∈ (s.published d).contributors) fuel b := by
  induction fuel generalizing b with
  | zero => rfl
  | succ fuel ih =>
    rw [mem_expand_succ]
    exact or_congr_right (exists_congr fun d => and_congr_right fun _ => ih)

theorem within_of_carries {s : State} {b : BankIx} {c : Source} (h : Carries s b c) :
    ∃ k, Within (PublishedReenters s) (fun d => c ∈ (s.published d).contributors) k b := by
  induction h with
  | own hc => exact ⟨0, hc⟩
  | through hbd _ ih =>
    obtain ⟨k, hk⟩ := ih
    exact ⟨k + 1, .inr ⟨_, hbd, hk⟩⟩

theorem carries_of_within {s : State} {b : BankIx} {c : Source} {k : Nat}
    (h : Within (PublishedReenters s) (fun d => c ∈ (s.published d).contributors) k b) : Carries s b c := by
  induction k generalizing b with
  | zero => exact .own h
  | succ k ih =>
    obtain h | ⟨d, hbd, hd⟩ := h
    · exact .own h
    · exact .through hbd (ih hd)

/-- Three re-entries or more expand a bank's contributors to all that it carries (R16). -/
theorem mem_expand_iff_carries {s : State} {fuel : Nat} (hfuel : 3 ≤ fuel) {b : BankIx} {c : Source} :
    c ∈ expand s.banks fuel (s.published b).contributors ↔ Carries s b c := by
  rw [mem_expand_iff_within]
  refine ⟨carries_of_within, fun h => ?_⟩
  obtain ⟨k, hk⟩ := within_of_carries h
  exact within_of_card (by simpa using hfuel) k hk

/-! ### The marks of a resolution (R140 to R147) -/

theorem mem_airBanks {s : State} {b : BankIx} :
    b ∈ (indices 4).filter s.isAir ↔ s.airBank b = true ∧ s.enabled b = true := by
  simp [State.isAir]

theorem resolution_pgm (s : State) (n : FieldNo) (c : Source) :
    pick (s.resolution n).pgm c = true ↔ ∃ b, s.airBank b = true ∧ s.enabled b = true ∧ Carries s b c := by
  simp only [State.resolution, pick_tab, List.contains_iff_mem, State.programSources, List.mem_flatMap, mem_airBanks,
    State.expanded, mem_expand_iff_carries (Nat.le_succ 3), and_assoc]

theorem resolution_pvw (s : State) (n : FieldNo) (c : Source) :
    pick (s.resolution n).pvw c = true ↔ ∃ b, s.airBank b = true ∧ s.enabled b = true ∧
      (c ∈ (s.published b).previewContributors ∨
        ∃ d, meCode d ∈ (s.published b).previewContributors ∧ Carries s d c) := by
  have hcarries : ∀ d, c ∈ expand s.banks 3 (pick s.banks d).published.contributors ↔ Carries s d c := fun _ =>
    mem_expand_iff_carries (Nat.le_refl 3)
  simp only [State.resolution, pick_tab, List.contains_iff_mem, State.previewSources, List.mem_flatMap, mem_airBanks,
    mem_expand_succ, hcarries, and_assoc]

theorem resolution_running (s : State) (n : FieldNo) (b : BankIx) :
    pick (s.resolution n).running b = true ↔ s.enabled b = true ∧ (s.published b).phase ≠ .idle := by
  simp only [State.resolution, pick_tab, Bool.and_eq_true, isRunning_iff]

theorem resolution_done (s : State) (n : FieldNo) (b : BankIx) :
    pick (s.resolution n).done b = true ↔ s.enabled b = true ∧ (s.published b).done = true := by
  simp only [State.resolution, pick_tab, Bool.and_eq_true]

/-- Settles O34: contributors bus by bus, and what is carried through re-entry by a search that four banks bound. -/
theorem tallyMarksExactlyWhatAirBanksCarry : Obligations.TallyMarksExactlyWhatAirBanksCarry := fun s n =>
  ⟨fun _ _ => mem_contributors, fun _ _ => mem_previewContributors, resolution_pgm s n, resolution_pvw s n,
    fun b => ⟨resolution_running s n b, resolution_done s n b⟩⟩

end Sys2Proof.Reentry
end

section
/-! The actions that set a bank up (R8, R17, R30 to R35, R81): SELECT of B, KEY-SETUP, TRANS-SETUP, LAYERS and RECALL,
what each is judged by and what it writes. -/

open Sys2Proof Sys2Proof.Machine Sys2Proof.TransitionController

namespace Sys2Proof.Reentry

/-! ### Selected values (R8, R17, R31) -/

/-- A field that the mask leaves out keeps the value held, so it changes nothing. -/
theorem changes_iff {α : Type} [DecidableEq α] {selected : Option α} {held : α} :
    changes selected held = true ↔ selected.getD held ≠ held := by
  cases selected <;> simp [changes]

theorem oneIf_changes {α : Type} [DecidableEq α] (selected : Option α) (held : α) :
    oneIf (changes selected held) = if selected.getD held = held then 0 else 1 := by
  by_cases h : selected.getD held = held <;> simp [oneIf, changes_iff, h]

theorem oneIf_ne (c held : Source) : oneIf (c != held) = if c = held then 0 else 1 := by
  by_cases h : c = held <;> simp [oneIf, h]

theorem slotReady_eq (n : FieldNo) (prepare : Nat) (selected : Option Source) (held : Source) (ready : FieldNo) :
    slotReady n prepare selected held ready =
      if selected.getD held = held then ready else n + BitVec.ofNat 32 prepare := by
  by_cases h : selected.getD held = held <;> simp [slotReady, changes_iff, h, fieldsOn]

/-- A source closes a loop when it is new on its bus and re-enters a bank that depends on this one (R17). -/
theorem closesLoop_iff {s : State} {b : BankIx} {held c : Source} :
    s.closesLoop b held c = true ↔ c ≠ held ∧ ∃ d, c = meCode d ∧ s.inClosure d b = true := by
  simp only [State.closesLoop, Bool.and_eq_true, bne_iff_ne, ← reentered_eq_some]
  cases reentered c <;> simp

theorem selectedCloses_eq (s : State) (b : BankIx) (held : Source) (selected : Option Source) :
    s.selectedCloses b held selected = s.closesLoop b held (selected.getD held) := by
  cases selected <;> simp [State.selectedCloses, State.closesLoop]

/-! ### SELECT of B (R30) -/

theorem judgeSelectB_eq (s : State) (b : BankIx) (c : Source) (n : FieldNo) :
    s.judge b (.select .b c) n =
      if (s.working b).phase ≠ .idle ∧ hasBkgd (s.working b).layers = true then .refuse .busy
      else if s.closesLoop b (s.working b).b c = true then .refuse .loop
      else .goAhead (if c = (s.working b).b then 0 else 1) none := by
  simp only [State.judge, State.judgeSelect, Bool.and_eq_true, isRunning_iff, oneIf_ne]

/-! ### KEY-SETUP (R31) -/

theorem judgeKeySetup_eq (s : State) (b : BankIx) (k : KeyerIx) (f : KeyFields) (n : FieldNo) :
    s.judge b (.keySetup k f) n =
      if hasKey (s.working b).layers k = true ∧ (s.working b).phase ≠ .idle ∧
          (f.fill.getD ((s.working b).keyer k).fill ≠ ((s.working b).keyer k).fill ∨
            f.key.getD ((s.working b).keyer k).key ≠ ((s.working b).keyer k).key ∨
            f.kind.getD ((s.working b).keyer k).kind ≠ ((s.working b).keyer k).kind) then .refuse .busy
      else if s.closesLoop b ((s.working b).keyer k).fill (f.fill.getD ((s.working b).keyer k).fill) = true ∨
          s.closesLoop b ((s.working b).keyer k).key (f.key.getD ((s.working b).keyer k).key) = true then .refuse .loop
      else .goAhead ((if f.fill.getD ((s.working b).keyer k).fill = ((s.working b).keyer k).fill then 0 else 1) +
          (if f.key.getD ((s.working b).keyer k).key = ((s.working b).keyer k).key then 0 else 1)) none := by
  simp only [State.judge, State.judgeKeySetup, Bool.and_eq_true, Bool.or_eq_true, isRunning_iff, changes_iff, or_assoc,
    and_assoc, selectedCloses_eq, oneIf_changes]

theorem keySetup_keyer (r : BankRecord) (n : FieldNo) (prepare : Nat) (k : KeyerIx) (f : KeyFields) :
    (r.keySetup n prepare k f).keyer k =
      { r.keyer k with
        fill := f.fill.getD (r.keyer k).fill, key := f.key.getD (r.keyer k).key
        kind := f.kind.getD (r.keyer k).kind, clip := f.clip.getD (r.keyer k).clip
        gain := f.gain.getD (r.keyer k).gain, invert := f.invert.getD (r.keyer k).invert
        fillReady := if f.fill.getD (r.keyer k).fill = (r.keyer k).fill then (r.keyer k).fillReady
          else n + BitVec.ofNat 32 prepare
        keyReady := if f.key.getD (r.keyer k).key = (r.keyer k).key then (r.keyer k).keyReady
          else n + BitVec.ofNat 32 prepare } := by
  refine (pick_upd_same ..).trans ?_
  simp only [slotReady_eq]
  rfl

theorem keySetup_otherKeyer (r : BankRecord) (n : FieldNo) (prepare : Nat) {j k : KeyerIx} (h : j ≠ k) (f : KeyFields) :
    (r.keySetup n prepare k f).keyer j = r.keyer j := pick_upd_other _ h _

/-! ### TRANS-SETUP and LAYERS (R32, R33) -/

theorem judgeTransSetup_eq (r : BankRecord) (f : TransFields) :
    r.judgeTransSetup f =
      if r.phase ≠ .idle ∧ (f.kind.getD r.kind ≠ r.kind ∨ f.pattern.getD r.pattern ≠ r.pattern ∨
        f.direction.getD r.direction ≠ r.direction) then .refuse .busy
      else .goAhead 0 none := by
  simp only [BankRecord.judgeTransSetup, Bool.and_eq_true, Bool.or_eq_true, isRunning_iff, changes_iff, or_assoc]

theorem transSetup_eq (r : BankRecord) (f : TransFields) :
    r.transSetup f = { r with
      kind := f.kind.getD r.kind, rate := f.rate.getD r.rate, pattern := f.pattern.getD r.pattern
      direction := f.direction.getD r.direction, softness := f.softness.getD r.softness
      borderWidth := f.borderWidth.getD r.borderWidth, borderColour := f.borderColour.getD r.borderColour
      remaining := if r.phase = .auto ∧ f.rate.getD r.rate ≠ r.rate then recomputed (f.rate.getD r.rate) r.progress
        else r.remaining } := by
  simp only [BankRecord.transSetup, changes_iff]

theorem judgeLayers_eq (r : BankRecord) :
    r.judgeLayers = if r.phase = .idle then .goAhead 0 none else .refuse .busy := by
  by_cases h : r.phase = .idle <;> simp [BankRecord.judgeLayers, h]

/-- With nothing to change the lever starts nothing (R42). -/
theorem engage_noLayers {r : BankRecord} (hp : r.phase = .idle) (hlayers : r.layers = 0) (n : FieldNo) (dwell v : Nat) :
    (r.engage n dwell v).phase = .idle := by
  simp only [BankRecord.engage, hp]
  split
  · rw [BankRecord.leverStart, if_neg fun ⟨_, hsome, _⟩ => hsome hlayers, hp]
  · unfold BankRecord.unpark
    split
    · exact hp
    · split <;> exact hp
  · exact hp

/-- Settles O22: each action's judgement, and its writes field by field. -/
theorem setupActionsWriteWhatTheySelect : Obligations.SetupActionsWriteWhatTheySelect := by
  intro s b n dwell prepare
  refine ⟨fun c => ⟨judgeSelectB_eq s b c n, rfl⟩, fun k f => ⟨judgeKeySetup_eq s b k f n, ?keySetup⟩,
    fun f => ⟨?busy, ?otherwise, ?transSetup⟩, fun set => ⟨judgeLayers_eq _, rfl⟩,
    fun hp hlayers => ⟨?cut, ?auto, ?lever⟩⟩
  case keySetup =>
    have hkeyer := keySetup_keyer (s.working b) n prepare k f
    refine ⟨(s.working b).keySetup n prepare k f, rfl, rfl, fun j hj => keySetup_otherKeyer _ n prepare hj f, ?_⟩
    rw [hkeyer]
  case busy =>
    rw [State.judge, judgeTransSetup_eq]
    split <;> simp [*]
  case otherwise =>
    rw [State.judge, judgeTransSetup_eq]
    split <;> simp
  case transSetup => rw [← transSetup_eq]; rfl
  case cut => rw [State.judge, judgeCut_eq, if_neg (not_not.mpr hp), if_pos hlayers]
  case auto => simp [State.judge, BankRecord.judgeAuto, hp, BankRecord.judgeTake, hlayers]
  case lever => exact fun v => engage_noLayers hp hlayers n dwell v

/-! ### RECALL (R34, R35, R81) -/

/-- The assignments that a record makes to a keyer, if it lists it (R34). -/
def keyerAssignments (y : Keyer) : Option EffectKeyer → List (Source × Source)
  | some e => [(y.fill, e.fill), (y.key, e.key)]
  | none => []

/-- The sources that a record changes of a keyer, if it lists it (R81). -/
def keyerChanges (y : Keyer) : Option EffectKeyer → Nat
  | some e => (if e.fill = y.fill then 0 else 1) + (if e.key = y.key then 0 else 1)
  | none => 0

theorem recallAssignments_eq (r : BankRecord) (e : Effect) :
    recallAssignments r e =
      (r.a, e.a) :: (r.b, e.b) :: (indices 4).flatMap fun k => keyerAssignments (r.keyer k) (pick e.keyers k) := rfl

theorem mem_keyerAssignments {y : Keyer} {e : Option EffectKeyer} {m : Source × Source} :
    m ∈ keyerAssignments y e ↔ ∃ x, e = some x ∧ (m = (y.fill, x.fill) ∨ m = (y.key, x.key)) := by
  cases e <;> simp [keyerAssignments]

/-- The assignments of a staged record: its A and B, and the fill and key of each keyer that it lists (R34). -/
theorem mem_recallAssignments {r : BankRecord} {e : Effect} {m : Source × Source} :
    m ∈ recallAssignments r e ↔ m = (r.a, e.a) ∨ m = (r.b, e.b) ∨
      ∃ k y, pick e.keyers k = some y ∧ (m = ((r.keyer k).fill, y.fill) ∨ m = ((r.keyer k).key, y.key)) := by
  simp only [recallAssignments_eq, List.mem_cons, List.mem_flatMap, mem_indices, true_and, mem_keyerAssignments]

/-- The crosspoint changes among assignments (R81). -/
def moved (ms : List (Source × Source)) : Nat := (ms.filter fun m => m.1 != m.2).length

theorem moved_cons (held c : Source) (ms : List (Source × Source)) :
    moved ((held, c) :: ms) = (if c = held then 0 else 1) + moved ms := by
  by_cases h : c = held
  · simp [moved, h]
  · have hne : held ≠ c := fun heq => h heq.symm
    simp [moved, h, hne, Nat.add_comm]

theorem moved_keyerAssignments (y : Keyer) (e : Option EffectKeyer) :
    moved (keyerAssignments y e) = keyerChanges y e := by
  cases e with
  | none => rfl
  | some e => simp only [keyerAssignments, keyerChanges, moved_cons]; rfl

/-- A recall counts the sources that it changes (R81). -/
theorem moved_recallAssignments (r : BankRecord) (e : Effect) :
    moved (recallAssignments r e) = (if e.a = r.a then 0 else 1) + (if e.b = r.b then 0 else 1) +
      ((List.finRange 4).map fun k => keyerChanges (r.keyer k) (pick e.keyers k)).sum := by
  have hkeyers : ∀ ks : List KeyerIx,
      moved (ks.flatMap fun k => keyerAssignments (r.keyer k) (pick e.keyers k)) =
        (ks.map fun k => keyerChanges (r.keyer k) (pick e.keyers k)).sum := fun ks => by
    simp only [← moved_keyerAssignments, moved, List.filter_flatMap, List.length_flatMap]
  rw [recallAssignments_eq, moved_cons, moved_cons, hkeyers, Nat.add_assoc]
  rfl

theorem judgeRecall_eq {s : State} {b : BankIx} {e : Effect} (he : (s.bank b).staging = some e) (register : Nat)
    (n : FieldNo) :
    s.judge b (.recallEffect register true) n =
      if s.closesLoop b (s.working b).a e.a = true ∨ s.closesLoop b (s.working b).b e.b = true ∨
          ∃ k y, pick e.keyers k = some y ∧ (s.closesLoop b ((s.working b).keyer k).fill y.fill = true ∨
            s.closesLoop b ((s.working b).keyer k).key y.key = true) then .refuse .loop
      else .goAhead ((if e.a = (s.working b).a then 0 else 1) + (if e.b = (s.working b).b then 0 else 1) +
          ((List.finRange 4).map fun k => keyerChanges ((s.working b).keyer k) (pick e.keyers k)).sum) none := by
  have hloop : ((recallAssignments (s.working b) e).any fun m => s.closesLoop b m.1 m.2) = true ↔
      s.closesLoop b (s.working b).a e.a = true ∨ s.closesLoop b (s.working b).b e.b = true ∨
        ∃ k y, pick e.keyers k = some y ∧ (s.closesLoop b ((s.working b).keyer k).fill y.fill = true ∨
          s.closesLoop b ((s.working b).keyer k).key y.key = true) := by
    simp only [List.any_eq_true, mem_recallAssignments]
    constructor
    · rintro ⟨m, rfl | rfl | ⟨k, y, hy, rfl | rfl⟩, hm⟩
      · exact .inl hm
      · exact .inr (.inl hm)
      · exact .inr (.inr ⟨k, y, hy, .inl hm⟩)
      · exact .inr (.inr ⟨k, y, hy, .inr hm⟩)
    · rintro (hm | hm | ⟨k, y, hy, hm | hm⟩)
      · exact ⟨_, .inl rfl, hm⟩
      · exact ⟨_, .inr (.inl rfl), hm⟩
      · exact ⟨_, .inr (.inr ⟨k, y, hy, .inl rfl⟩), hm⟩
      · exact ⟨_, .inr (.inr ⟨k, y, hy, .inr rfl⟩), hm⟩
  have hcount : ((recallAssignments (s.working b) e).filter fun m => m.1 != m.2).length = _ :=
    moved_recallAssignments (s.working b) e
  simp only [State.judge, State.judgeRecall, he, hloop, hcount]

/-- An abort leaves every setting but the key levels, and an IDLE bank as it is (R34). -/
theorem abort_eq {r : BankRecord} (h : r.Legal) :
    r.abort = { r with
      keyers := r.abort.keyers, phase := .idle, progress := 0, remaining := 0
      aborted := r.aborted || r.phase != .idle } := by
  unfold BankRecord.abort
  split
  · rename_i hrun
    simp [BankRecord.setLevels, (isRunning_iff r).mp hrun]
  · rename_i hrun
    have hp : r.phase = .idle := not_not.mp fun hp => hrun ((isRunning_iff r).mpr hp)
    obtain ⟨-, -, hprogress, hremaining, -⟩ := (legal_iff_of_idle hp).mp h
    cases r
    simp_all

/-- An abort changes of a keyer its level alone (R34). -/
theorem abort_keyer (r : BankRecord) (k : KeyerIx) : ∃ level, r.abort.keyer k = { r.keyer k with level := level } := by
  unfold BankRecord.abort
  split
  · exact ⟨_, pick_tab ..⟩
  · exact ⟨_, rfl⟩

/-- A keyer after a recall: its listed settings, or off (R35). -/
theorem recalled_eq (y : Keyer) (n : FieldNo) (prepare : Nat) (e : Option EffectKeyer) :
    y.recalled n prepare e =
      match e with
      | some e =>
        { fill := e.fill, key := e.key, kind := e.kind, clip := e.clip, gain := e.gain, invert := e.invert
          onAir := e.onAir, level := if e.onAir then 4096 else 0
          fillReady := if e.fill = y.fill then y.fillReady else n + BitVec.ofNat 32 prepare
          keyReady := if e.key = y.key then y.keyReady else n + BitVec.ofNat 32 prepare }
      | none => { y with onAir := false, level := 0 } := by
  cases e with
  | none => rfl
  | some e => simp only [Keyer.recalled, slotReady_eq, idleLevel, Option.getD_some, Config.whole]

theorem applyEffect_keyer (r : BankRecord) (n : FieldNo) (prepare : Nat) (e : Effect) (k : KeyerIx) :
    (r.abort.applyEffect n prepare e).keyer k = (r.keyer k).recalled n prepare (pick e.keyers k) := by
  obtain ⟨level, hlevel⟩ := abort_keyer r k
  have hkeyer : (r.abort.applyEffect n prepare e).keyer k = (r.abort.keyer k).recalled n prepare (pick e.keyers k) :=
    pick_tab ..
  rw [hkeyer, hlevel, recalled_eq, recalled_eq]

/-- Settles O23: the judgement by the record's assignments, and the record it leaves by the abort and keyer by keyer. -/
theorem recallTakesItsWholeRecord : Obligations.RecallTakesItsWholeRecord := by
  intro s b register n dwell prepare e hlegal he
  refine ⟨judgeRecall_eq he register n, fun held c => ?_,
    (s.working b).abort.applyEffect n prepare e, ?_, ?_, fun k => ?_⟩
  · simp only [closesLoop_iff, Fin.ext_iff, meCode]
  · simp only [Bank.perform, he]
    rfl
  · rw [BankRecord.applyEffect, abort_eq hlegal]
    simp only [slotReady_eq, Option.getD_some]
  · exact (applyEffect_keyer ..).trans (recalled_eq ..)

end Sys2Proof.Reentry
end

section
/-! The sources on the buses of a bank (R17, R18): which changes of a record bring none that closes a loop, and why the
re-entry relation stays acyclic where one bank at a time changes so. -/

open Sys2Proof Sys2Proof.Machine Sys2Proof.TransitionController

namespace Sys2Proof.Reentry

/-! ### Changes that bring no source (R36, R40 to R47) -/

/-- Every source on a bus of `q` was on a bus of `r`. -/
structure NoNewSource (r q : BankRecord) : Prop where
  mem : ∀ c ∈ q.buses, c ∈ r.buses

theorem NoNewSource.refl (r : BankRecord) : NoNewSource r r := ⟨fun _ => id⟩

theorem NoNewSource.trans {r q p : BankRecord} (h : NoNewSource r q) (h' : NoNewSource q p) : NoNewSource r p :=
  ⟨fun c hc => h.mem c (h'.mem c hc)⟩

/-- A change that leaves A, B and every keyer's fill and key. -/
theorem noNewSource_of_slots {r q : BankRecord} (ha : q.a = r.a := by rfl) (hb : q.b = r.b := by rfl)
    (hk : ∀ k, (q.keyer k).fill = (r.keyer k).fill ∧ (q.keyer k).key = (r.keyer k).key := by
      exact fun _ => ⟨rfl, rfl⟩) :
    NoNewSource r q := by
  refine ⟨fun c hc => ?_⟩
  obtain rfl | rfl | ⟨k, rfl | rfl⟩ := mem_buses.mp hc
  · exact mem_buses.mpr (.inl ha)
  · exact mem_buses.mpr (.inr (.inl hb))
  · exact mem_buses.mpr (.inr (.inr ⟨k, .inl (hk k).1⟩))
  · exact mem_buses.mpr (.inr (.inr ⟨k, .inr (hk k).2⟩))

theorem setLevels_noNewSource (r : BankRecord) : NoNewSource r r.setLevels :=
  noNewSource_of_slots rfl rfl fun k => by
    rw [show r.setLevels.keyer k = { r.keyer k with level := r.levelOf k } from pick_tab ..]
    exact ⟨rfl, rfl⟩

theorem refresh_noNewSource (r : BankRecord) (n : FieldNo) : NoNewSource r (r.refresh n) :=
  noNewSource_of_slots rfl rfl fun k => by
    rw [show (r.refresh n).keyer k = { r.keyer k with
      fillReady := refreshed n (r.keyer k).fillReady, keyReady := refreshed n (r.keyer k).keyReady } from pick_tab ..]
    exact ⟨rfl, rfl⟩

/-- A completion exchanges A and B at most (R36). -/
theorem complete_noNewSource (r : BankRecord) (n : FieldNo) (dwell : Nat) (byLever : Bool) :
    NoNewSource r (r.complete n dwell byLever) := by
  have hkeyer : ∀ k, ((r.complete n dwell byLever).keyer k).fill = (r.keyer k).fill ∧
      ((r.complete n dwell byLever).keyer k).key = (r.keyer k).key := fun k => by
    rw [complete_keyer]
    split <;> exact ⟨rfl, rfl⟩
  by_cases hbkgd : hasBkgd r.layers = true
  · refine ⟨fun c hc => ?_⟩
    obtain rfl | rfl | ⟨k, rfl | rfl⟩ := mem_buses.mp hc
    · exact mem_buses.mpr (.inr (.inl (if_pos hbkgd)))
    · exact mem_buses.mpr (.inl (if_pos hbkgd))
    · exact mem_buses.mpr (.inr (.inr ⟨k, .inl (hkeyer k).1⟩))
    · exact mem_buses.mpr (.inr (.inr ⟨k, .inr (hkeyer k).2⟩))
  · exact noNewSource_of_slots (if_neg hbkgd) (if_neg hbkgd) hkeyer

theorem autoStep_noNewSource (r : BankRecord) (n : FieldNo) (dwell : Nat) : NoNewSource r (r.autoStep n dwell) := by
  obtain ⟨-, hstep⟩ | ⟨-, hstep⟩ := autoStep_cases r n dwell <;> rw [hstep]
  · exact complete_noNewSource ..
  · exact .trans noNewSource_of_slots (setLevels_noNewSource _)

theorem follow_noNewSource (r : BankRecord) (n : FieldNo) (dwell v : Nat) : NoNewSource r (r.follow n dwell v) := by
  unfold BankRecord.follow
  split
  · exact complete_noNewSource ..
  split
  · exact .trans noNewSource_of_slots (setLevels_noNewSource _)
  · exact noNewSource_of_slots

theorem pickUp_noNewSource (r : BankRecord) (n : FieldNo) (dwell v : Nat) : NoNewSource r (r.pickUp n dwell v) := by
  unfold BankRecord.pickUp
  split
  · split
    · exact noNewSource_of_slots
    split
    · exact noNewSource_of_slots
    · exact noNewSource_of_slots
  · split
    · exact follow_noNewSource ..
    · exact .refl r
  · split
    · exact follow_noNewSource ..
    · exact .refl r
  · exact .refl r

/-- Whatever rule of engagement applies, it brings no source (R42 to R46). -/
theorem engage_noNewSource (r : BankRecord) (n : FieldNo) (dwell v : Nat) : NoNewSource r (r.engage n dwell v) := by
  unfold BankRecord.engage
  split
  · split
    · unfold BankRecord.leverStart
      split
      · exact follow_noNewSource ..
      · exact .refl r
    · unfold BankRecord.unpark
      split
      · exact noNewSource_of_slots
      split
      · exact noNewSource_of_slots
      · exact .refl r
    · exact .refl r
  · split
    · exact follow_noNewSource ..
    · exact .refl r
  · exact pickUp_noNewSource ..
  · exact pickUp_noNewSource ..

/-- A field update brings no source (R47). -/
theorem brought_noNewSource (k : Bank) (n : FieldNo) (dwell : Nat) : NoNewSource k.working (k.brought n dwell) := by
  have hstep : NoNewSource k.working (k.stepAuto n dwell) := by
    unfold Bank.stepAuto
    split
    · exact autoStep_noNewSource ..
    · exact .refl _
  have hread : NoNewSource (k.stepAuto n dwell) ((k.stepAuto n dwell).readLever k.lever n dwell) := by
    unfold BankRecord.readLever
    split
    · exact engage_noNewSource ..
    · exact .refl _
  exact ((hstep.trans hread).trans (setLevels_noNewSource _)).trans (refresh_noNewSource _ n)

theorem leverCleared_noNewSource (r : BankRecord) : NoNewSource r r.leverCleared := by
  unfold BankRecord.leverCleared
  split <;> exact noNewSource_of_slots

theorem hold_noNewSource (r : BankRecord) : NoNewSource r r.hold := by
  unfold BankRecord.hold
  split <;> exact noNewSource_of_slots

theorem auto_noNewSource (k : Bank) (n : FieldNo) (dwell : Nat) : NoNewSource k.working (k.auto n dwell).working := by
  unfold Bank.auto
  dsimp only
  split
  · exact .trans noNewSource_of_slots (autoStep_noNewSource ..)
  · exact .refl _
  · exact noNewSource_of_slots
  · exact noNewSource_of_slots

theorem keyCut_noNewSource (r : BankRecord) (k : KeyerIx) (on : Bool) : NoNewSource r (r.keyCut k on) :=
  noNewSource_of_slots (by unfold BankRecord.keyCut; split <;> rfl) (by unfold BankRecord.keyCut; split <;> rfl)
    fun j => by
      rw [keyCut_keyer]
      split
      · rename_i hj
        exact hj.1 ▸ ⟨rfl, rfl⟩
      · exact ⟨rfl, rfl⟩

/-- A take brings no source (R24 to R27). -/
theorem perform_take_noNewSource {a : Action} (ha : a.isTake = true) (k : Bank) (n : FieldNo) (dwell prepare : Nat) :
    NoNewSource k.working (k.perform a n dwell prepare).working := by
  cases a with
  | cut => exact complete_noNewSource ..
  | auto => exact auto_noNewSource ..
  | hold => exact hold_noNewSource _
  | _ => simp [Action.isTake] at ha

/-! ### Sources that close no loop (R17, R18) -/

/-- A source that may stand on a bus of bank `b`: it re-enters no bank that depends on `b`. -/
def Safe (s : State) (b : BankIx) (c : Source) : Prop := ∀ d, c = meCode d → ¬ DependsOn s d b

/-- Every source on the buses of a record may stand there. -/
def SafeRecord (s : State) (b : BankIx) (r : BankRecord) : Prop := ∀ c ∈ r.buses, Safe s b c

theorem SafeRecord.keep {s : State} {b : BankIx} {r q : BankRecord} (h : SafeRecord s b r) (hq : NoNewSource r q) :
    SafeRecord s b q := fun c hc => h c (hq.mem c hc)

theorem safeRecord_iff {s : State} {b : BankIx} {r : BankRecord} :
    SafeRecord s b r ↔ Safe s b r.a ∧ Safe s b r.b ∧
      ∀ k, Safe s b (r.keyer k).fill ∧ Safe s b (r.keyer k).key := by
  constructor
  · intro h
    exact ⟨h _ (mem_buses.mpr (.inl rfl)), h _ (mem_buses.mpr (.inr (.inl rfl))), fun k =>
      ⟨h _ (mem_buses.mpr (.inr (.inr ⟨k, .inl rfl⟩))), h _ (mem_buses.mpr (.inr (.inr ⟨k, .inr rfl⟩)))⟩⟩
  · rintro ⟨ha, hb, hk⟩ c hc
    obtain rfl | rfl | ⟨k, rfl | rfl⟩ := mem_buses.mp hc
    · exact ha
    · exact hb
    · exact (hk k).1
    · exact (hk k).2

/-- A source that passes the loop test may stand where one stood that may (R17). -/
theorem safe_of_test {s : State} {b : BankIx} {held c : Source} (h : ¬ s.closesLoop b held c = true)
    (hheld : Safe s b held) : Safe s b c := by
  intro d hd hdepends
  by_cases hsame : c = held
  · exact hheld d (hsame ▸ hd) hdepends
  · exact h (closesLoop_iff.mpr ⟨hsame, d, hd, (inClosure_iff ..).mpr hdepends⟩)

/-- The re-entry relation is acyclic when every source on every bus may stand there. -/
theorem reentryAcyclic_iff (s : State) :
    s.ReentryAcyclic ↔ s.LinkedTakes ∧ ∀ b, SafeRecord s b (s.working b) := by
  refine and_congr_right fun _ => forall_congr' fun b => ?_
  constructor
  · intro h c hc d hd
    subst hd
    exact (inClosure_eq_false ..).mp (h d (mem_reentries.mpr hc))
  · intro h d hd
    exact (inClosure_eq_false ..).mpr (h _ (mem_reentries.mp hd) d rfl)

/-! ### One bank changes (R17) -/

section
variable {s t : State} {b : BankIx} (hother : ∀ c, c ≠ b → NoNewSource (s.working c) (t.working c))
include hother

theorem busCarries_other {c d : BankIx} (hc : c ≠ b) (h : t.BusCarries c d) : s.BusCarries c d :=
  busCarries_iff.mpr (mem_reentries.mpr ((hother c hc).mem _ (mem_reentries.mp (busCarries_iff.mp h))))

/-- A path to the bank that changed, cut where it first comes there, is one of before. -/
theorem dependsOn_changed {x : BankIx} (h : DependsOn t x b) : DependsOn s x b := by
  generalize hy : b = y at h
  induction h with
  | itself => exact .itself
  | @through c d e hcd _ ih =>
    subst hy
    by_cases hc : c = b
    · exact hc ▸ .itself
    · exact .through (busCarries_other hother hc hcd) (ih rfl)

/-- A path is one of before, or it leads through the bank that changed. -/
theorem dependsOn_split {x y : BankIx} (h : DependsOn t x y) :
    DependsOn s x y ∨ DependsOn t x b ∧ DependsOn t b y := by
  induction h with
  | itself => exact .inl .itself
  | @through c d e hcd hde ih =>
    by_cases hc : c = b
    · subst hc
      exact .inr ⟨.itself, .through hcd hde⟩
    · obtain ih | ⟨hdb, hbe⟩ := ih
      · exact .inl (.through (busCarries_other hother hc hcd) ih)
      · exact .inr ⟨.through hcd hdb, hbe⟩

omit hother in
theorem dependsOn_trans {x y z : BankIx} (h : DependsOn t x y) (h' : DependsOn t y z) : DependsOn t x z := by
  induction h with
  | itself => exact h'
  | through hcd _ ih => exact .through hcd (ih h')

/-- Where the bank that changed holds only sources that might stand there before, no loop is closed: a new loop would
lead through that bank, and so from it back to it. -/
theorem safe_of_changed (hs : ∀ c, SafeRecord s c (s.working c)) (hb : SafeRecord s b (t.working b)) (c : BankIx) :
    SafeRecord t c (t.working c) := by
  have hbank : ∀ d, t.BusCarries b d → ¬ DependsOn t d b := fun d hd hdb =>
    hb _ (mem_reentries.mp (busCarries_iff.mp hd)) d rfl (dependsOn_changed hother hdb)
  rintro _ hx d rfl hdc
  have hcd : t.BusCarries c d := busCarries_iff.mpr (mem_reentries.mpr hx)
  by_cases hc : c = b
  · subst hc
    exact hbank d hcd hdc
  obtain hold | ⟨hdb, hbc⟩ := dependsOn_split hother hdc
  · exact hs c _ ((hother c hc).mem _ hx) d rfl hold
  · obtain _ | ⟨hbe, hec⟩ := hbc
    · exact hc rfl
    · exact hbank _ hbe (dependsOn_trans hec (.through hcd hdb))

end

/-! ### An action judged go ahead (R17, R21, R34) -/

theorem not_refused {p : Prop} [Decidable p] {reason : Reason} {j : Judgement} {count : Nat} {note : Option Reason}
    (h : (if p then .refuse reason else j) = Judgement.goAhead count note) : ¬ p ∧ j = .goAhead count note := by
  split at h
  · cases h
  · exact ⟨‹_›, h⟩

/-- What an action judged go ahead writes closes no loop. -/
theorem perform_safe {s : State} {b : BankIx} {a : Action} {n : FieldNo} {count : Nat} {note : Option Reason}
    (hj : s.judge b a n = .goAhead count note) (h : SafeRecord s b (s.working b)) (dwell prepare : Nat) :
    SafeRecord s b ((s.bank b).perform a n dwell prepare).working := by
  obtain ⟨ha, hb, hk⟩ := safeRecord_iff.mp h
  cases a with
  | select bus c =>
    cases bus with
    | a =>
      rw [State.judge, State.judgeSelect] at hj
      obtain ⟨hloop, -⟩ := not_refused hj
      exact safeRecord_iff.mpr ⟨safe_of_test hloop ha, hb, hk⟩
    | b =>
      rw [judgeSelectB_eq] at hj
      obtain ⟨-, hj⟩ := not_refused hj
      obtain ⟨hloop, -⟩ := not_refused hj
      exact safeRecord_iff.mpr ⟨ha, safe_of_test hloop hb, hk⟩
  | cut => exact h.keep (complete_noNewSource ..)
  | auto => exact h.keep (auto_noNewSource ..)
  | hold => exact h.keep (hold_noNewSource _)
  | keyCut k on => exact h.keep (keyCut_noNewSource ..)
  | transSetup f => exact h.keep noNewSource_of_slots
  | layers set => exact h.keep noNewSource_of_slots
  | keySetup k f =>
    rw [judgeKeySetup_eq] at hj
    obtain ⟨-, hj⟩ := not_refused hj
    obtain ⟨hloop, -⟩ := not_refused hj
    obtain ⟨hfill, hkey⟩ := not_or.mp hloop
    refine safeRecord_iff.mpr ⟨ha, hb, fun j => ?_⟩
    change Safe s b (((s.working b).keySetup n prepare k f).keyer j).fill ∧
      Safe s b (((s.working b).keySetup n prepare k f).keyer j).key
    by_cases hjk : j = k
    · subst hjk
      rw [keySetup_keyer]
      exact ⟨safe_of_test hfill (hk j).1, safe_of_test hkey (hk j).2⟩
    · rw [keySetup_otherKeyer _ n prepare hjk]
      exact hk j
  | recallEffect register staged =>
    cases he : (s.bank b).staging with
    | none =>
      simp only [Bank.perform, he]
      exact h
    | some e =>
      have hj : s.judge b (.recallEffect register true) n = .goAhead count note := hj
      rw [judgeRecall_eq he] at hj
      obtain ⟨hloop, -⟩ := not_refused hj
      push Not at hloop
      obtain ⟨hloopA, hloopB, hloopK⟩ := hloop
      have hrecord : ((s.bank b).perform (.recallEffect register staged) n dwell prepare).working =
          (s.working b).abort.applyEffect n prepare e := by
        simp only [Bank.perform, he]
        rfl
      rw [hrecord]
      refine safeRecord_iff.mpr ⟨safe_of_test hloopA ha, safe_of_test hloopB hb, fun k => ?_⟩
      rw [applyEffect_keyer]
      cases hy : pick e.keyers k with
      | none => exact hk k
      | some y => exact ⟨safe_of_test (hloopK k y hy).1 (hk k).1, safe_of_test (hloopK k y hy).2 (hk k).2⟩

end Sys2Proof.Reentry
end

section
/-! What the re-entry relation, the claims and the banks that are not enabled have to fear of a change of the state (R4,
R17, R94, R97): which changes of banks, list, jobs, claims and links keep them as the rules want them. -/

open Sys2Proof Sys2Proof.Machine Sys2Proof.TransitionController Sys2Proof.TransitionArithmetic Sys2Proof.Reentry

namespace Sys2Proof.EnabledBanks

/-! ### Claims one by one (R94, R97) -/

/-- An element of SYSTEM or of an enabled bank (R94). -/
def Present (s : State) (e : ElemIx) : Prop := ∀ b, elementBank e = some b → s.enabled b = true

/-- A claim that may stand at an element: orphaned while its holder's link is DOWN, and then a LOCK (R94, R97). -/
structure ClaimFits (s : State) (e : ElemIx) (c : Claim) : Prop where
  orphaned : c.orphaned = true ↔ (s.link c.holder).up = false
  lock : c.orphaned = true → c.lock = true
  age : c.age ≤ Config.countLimit
  present : Present s e

/-- A Claim Table of which each claim may stand at its element. -/
def TableFits (s : State) (claims : Vector (Option Claim) 25) : Prop := ∀ e c, pick claims e = some c → ClaimFits s e c

theorem claimsLegal_iff (s : State) : s.ClaimsLegal ↔ TableFits s s.claims := by
  constructor
  · rintro ⟨hclaims, habsent⟩ e c hc
    obtain ⟨horphaned, hlock, hage⟩ := hclaims e c hc
    refine ⟨horphaned, hlock, hage, fun b hb => ?_⟩
    by_contra hdisabled
    have hnone := habsent e b hb (by simpa using hdisabled)
    rw [State.claim, hc] at hnone
    cases hnone
  · intro h
    refine ⟨fun e c hc => ⟨(h e c hc).orphaned, (h e c hc).lock, (h e c hc).age⟩, fun e b hb hdisabled => ?_⟩
    by_contra hclaim
    obtain ⟨c, hc⟩ := Option.ne_none_iff_exists'.mp hclaim
    rw [(h e c hc).present b hb] at hdisabled
    cases hdisabled

theorem present_congr {s t : State} {e : ElemIx} (hstrap : t.strapHigh = s.strapHigh) (h : Present s e) : Present t e :=
  fun b hb => by rw [State.enabled, hstrap]; exact h b hb

theorem tableFits_congr {s t : State} {claims : Vector (Option Claim) 25} (h : TableFits s claims)
    (hup : ∀ l, (t.link l).up = (s.link l).up) (hstrap : t.strapHigh = s.strapHigh) : TableFits t claims := by
  intro e c hc
  obtain ⟨horphaned, hlock, hage, hpresent⟩ := h e c hc
  exact ⟨by rw [hup]; exact horphaned, hlock, hage, present_congr hstrap hpresent⟩

/-- No claim stands at an element of a bank that is not enabled (R94). -/
theorem absent_empty {s : State} {claims : Vector (Option Claim) 25} (h : TableFits s claims) {e : ElemIx} {b : BankIx}
    (he : elementBank e = some b) (hb : s.enabled b = false) : pick claims e = none := by
  by_contra hclaim
  obtain ⟨c, hc⟩ := Option.ne_none_iff_exists'.mp hclaim
  rw [(h e c hc).present b he] at hb
  cases hb

theorem elementBank_transElement : ∀ b, elementBank (transElement b) = some b := by decide

theorem elementBank_bkgdElement : ∀ b, elementBank (bkgdElement b) = some b := by decide

theorem elementBank_keyElement : ∀ b k, elementBank (keyElement b k) = some b := by decide

theorem elementBank_bankElements : ∀ b, ∀ e ∈ bankElements b, elementBank e = some b := by decide

theorem present_of_bank {s : State} {e : ElemIx} {b : BankIx} (he : elementBank e = some b) (hb : s.enabled b = true) :
    Present s e := fun _ hc => Option.some.inj (he.symm.trans hc) ▸ hb

theorem present_system (s : State) : Present s systemElement := fun b hb => by
  have hnone : elementBank systemElement = none := by decide
  rw [hnone] at hb
  cases hb

/-! ### Changes of the Claim Table (R98 to R107) -/

section
variable {s : State} (h : TableFits s s.claims)
include h

/-- A link that is UP uses elements that are there (R98, R100). -/
theorem usedClaims_fits {p : LinkIx} (hup : (s.link p).up = true) {es : List ElemIx} (hes : ∀ e ∈ es, Present s e) :
    TableFits s (usedClaims p es s.claims) := by
  intro e c hc
  rw [pick_usedClaims] at hc
  split at hc
  · rename_i he
    cases hc
    have hpresent := hes e (by simpa using he)
    have hnew : ClaimFits s e { holder := p, lock := false, age := 0, orphaned := false } :=
      ⟨by simp [hup], by simp, Nat.zero_le _, hpresent⟩
    unfold usedClaim
    split
    · rename_i old hold
      split
      · exact ⟨(h e old hold).orphaned, (h e old hold).lock, Nat.zero_le _, hpresent⟩
      · exact hnew
    · exact hnew
  · exact h e c hc

theorem updClaim_fits {e : ElemIx} {new : Option Claim} (hnew : ∀ c, new = some c → ClaimFits s e c) :
    TableFits s (upd s.claims e fun _ => new) := by
  intro f c hc
  rw [pick_upd] at hc
  split at hc
  · rename_i hf
    exact hf ▸ hnew c hc
  · exact h f c hc

theorem lockFor_fits {p : LinkIx} (hup : (s.link p).up = true) {e : ElemIx} (he : Present s e) :
    TableFits s (upd s.claims e fun _ => some (lockFor p)) :=
  updClaim_fits h fun c hc => by
    cases hc
    exact ⟨by simp [lockFor, hup], by simp [lockFor], Nat.zero_le _, he⟩

/-- A claim grows older and no other, or is emptied (R105). -/
theorem agedClaims_fits (aging : Nat) : TableFits s (agedClaims aging s.claims) := by
  intro e c hc
  simp only [agedClaims, pick_tab] at hc
  split at hc
  · cases hc
  · rename_i old hold
    split at hc
    · cases hc
    · cases hc
      exact ⟨(h e old hold).orphaned, (h e old hold).lock, Nat.min_le_right .., (h e old hold).present⟩

theorem prunedClaims_fits : TableFits s s.prunedClaims := by
  intro e c hc
  simp only [State.prunedClaims, pick_tab] at hc
  split at hc
  · cases hc
  · rename_i old hold
    split at hc
    · cases hc
      exact h e _ hold
    · cases hc

/-- With its link DOWN a touch is emptied and a lock is orphaned (R106). -/
theorem orphanedClaims_fits {t : State} {l : LinkIx} (hdown : (t.link l).up = false)
    (hother : ∀ m, m ≠ l → (t.link m).up = (s.link m).up) (hstrap : t.strapHigh = s.strapHigh) :
    TableFits t (orphanedClaims l s.claims) := by
  intro e c hc
  simp only [orphanedClaims, pick_tab] at hc
  split at hc
  · cases hc
  · rename_i old hold
    obtain ⟨horphaned, hlock, hage, hpresent⟩ := h e old hold
    have hthere := present_congr hstrap hpresent
    split at hc
    · rename_i hholder
      split at hc
      · rename_i hkind
        cases hc
        exact ⟨by simp [hholder, hdown], fun _ => hkind, hage, hthere⟩
      · cases hc
    · rename_i hholder
      cases hc
      exact ⟨by rw [hother _ hholder]; exact horphaned, hlock, hage, hthere⟩

/-- With its link UP a lock is restored (R106). -/
theorem restoredClaims_fits {t : State} {l : LinkIx} (hup : (t.link l).up = true)
    (hother : ∀ m, m ≠ l → (t.link m).up = (s.link m).up) (hstrap : t.strapHigh = s.strapHigh) :
    TableFits t (restoredClaims l s.claims) := by
  intro e c hc
  simp only [restoredClaims, pick_tab] at hc
  split at hc
  · cases hc
  · rename_i old hold
    obtain ⟨horphaned, hlock, hage, hpresent⟩ := h e old hold
    have hthere := present_congr hstrap hpresent
    split at hc
    · rename_i hholder
      cases hc
      exact ⟨by simp [hholder, hup], by simp, hage, hthere⟩
    · rename_i hholder
      cases hc
      exact ⟨by rw [hother _ hholder]; exact horphaned, hlock, hage, hthere⟩

end

/-! ### Banks that are not enabled (R4) -/

/-- What a bank that is not enabled has: no claim, no setting of its own, no entry and no recall job (R4, R94). -/
structure AbsentIdle (s : State) : Prop where
  claims : TableFits s s.claims
  banks : ∀ b, s.enabled b = false → s.bank b = Bank.default
  entries : ∀ e ∈ s.schedule, s.enabled e.bank = true
  jobs : ∀ j ∈ s.engine.jobs, ∀ b, j.isRecallOf b = true → s.enabled b = true

theorem absentBanksIdle_iff (s : State) : s.AbsentBanksIdle ↔ AbsentIdle s := by
  unfold State.AbsentBanksIdle
  rw [claimsLegal_iff]
  constructor
  · rintro ⟨hclaims, habsent⟩
    refine ⟨hclaims, fun b hb => (habsent b hb).1, fun e he => ?_, fun j hj b hrecall => ?_⟩
    · by_contra hb
      obtain ⟨-, hnone, -⟩ := habsent e.bank (by simpa using hb)
      exact hnone e he rfl
    · by_contra hb
      obtain ⟨-, -, hnone⟩ := habsent b (by simpa using hb)
      have hother := hnone j hj
      rw [hrecall] at hother
      cases hother
  · rintro ⟨hclaims, hbanks, hentries, hjobs⟩
    refine ⟨hclaims, fun b hb => ⟨hbanks b hb, fun e he heb => ?_, fun j hj => ?_⟩⟩
    · have hon := hentries e he
      rw [heb, hb] at hon
      cases hon
    · by_contra hrecall
      have hon := hjobs j hj b (by simpa using hrecall)
      rw [hb] at hon
      cases hon

/-! ### What a change keeps -/

/-- A list whose entries come from another's: each with the bank and the linked-set mark of an entry there, and a take
if that one is. -/
def EntriesOf (old new : List Entry) : Prop :=
  ∀ e ∈ new, ∃ x ∈ old, e.linked = x.linked ∧ e.action.isTake = x.action.isTake ∧ e.bank = x.bank

theorem entriesOf_subset {old new : List Entry} (h : ∀ e ∈ new, e ∈ old) : EntriesOf old new :=
  fun e he => ⟨e, h e he, rfl, rfl, rfl⟩

theorem EntriesOf.refl (list : List Entry) : EntriesOf list list := entriesOf_subset fun _ => id

/-- Both invariants, where they hold of `r`, hold of `s`: the re-entry relation is acyclic, and the banks that are not
enabled are idle, with the claims in form. -/
structure Keeps (r s : State) : Prop where
  acyclic : r.ReentryAcyclic → s.ReentryAcyclic
  idle : AbsentIdle r → AbsentIdle s

theorem Keeps.refl (s : State) : Keeps s s := ⟨id, id⟩

theorem linkedTakes_of {s t : State} (h : EntriesOf s.schedule t.schedule) (hs : s.LinkedTakes) : t.LinkedTakes := by
  intro e he hlinked
  obtain ⟨x, hx, hsame, htake, -⟩ := h e he
  rw [htake]
  exact hs x hx (hsame ▸ hlinked)

/-- No bank gains a source, so no loop is closed. -/
theorem acyclic_of_noNewSource {s t : State} (h : s.ReentryAcyclic) (hentries : EntriesOf s.schedule t.schedule)
    (hsources : ∀ b, NoNewSource (s.working b) (t.working b)) : t.ReentryAcyclic := by
  obtain ⟨htakes, hsafe⟩ := (reentryAcyclic_iff s).mp h
  refine (reentryAcyclic_iff t).mpr ⟨linkedTakes_of hentries htakes, ?_⟩
  exact safe_of_changed (b := 0) (fun c _ => hsources c) hsafe ((hsafe 0).keep (hsources 0))

theorem bank_of_banks {s t : State} (h : t.banks = s.banks) (b : BankIx) : t.bank b = s.bank b := by
  rw [State.bank, h]
  rfl

theorem noNewSource_of_bank {s t : State} {b : BankIx} (h : t.bank b = s.bank b) :
    NoNewSource (s.working b) (t.working b) := by
  rw [State.working, State.working, h]
  exact .refl _

/-- The working copies after one bank of the table has been replaced. -/
theorem working_upd {s t : State} {b : BankIx} {f : Bank → Bank} (h : t.banks = upd s.banks b f) (c : BankIx) :
    t.working c = if c = b then (f (s.bank b)).working else s.working c := by
  rw [State.working, State.bank, h, pick_upd]
  split <;> rfl

section
variable {r s : State} (h : Keeps r s)
include h

theorem Keeps.frame {t : State} (hentries : EntriesOf s.schedule t.schedule)
    (hsources : ∀ b, NoNewSource (s.working b) (t.working b))
    (hbanks : AbsentIdle s → ∀ b, s.enabled b = false → t.bank b = Bank.default)
    (hclaims : AbsentIdle s → TableFits t t.claims) (hjobs : ∀ j ∈ t.engine.jobs, j ∈ s.engine.jobs)
    (hstrap : t.strapHigh = s.strapHigh := by rfl) : Keeps r t where
  acyclic hr := acyclic_of_noNewSource (h.acyclic hr) hentries hsources
  idle hr := by
    have hs := h.idle hr
    have henabled : ∀ b, t.enabled b = s.enabled b := fun b => by rw [State.enabled, hstrap]; rfl
    refine ⟨hclaims hs, fun b hb => hbanks hs b (henabled b ▸ hb), fun e he => ?_, fun j hj b hb => ?_⟩
    · obtain ⟨x, hx, -, -, hbank⟩ := hentries e he
      rw [henabled, hbank]
      exact hs.entries x hx
    · exact (henabled b).trans (hs.jobs j (hjobs j hj) b hb)

/-- Nothing changes but the links, none of which goes UP or DOWN. -/
theorem Keeps.links {t : State} (hup : ∀ l, (t.link l).up = (s.link l).up) (hbanks : t.banks = s.banks := by rfl)
    (hschedule : t.schedule = s.schedule := by rfl) (hclaims : t.claims = s.claims := by rfl)
    (hjobs : t.engine.jobs = s.engine.jobs := by rfl) (hstrap : t.strapHigh = s.strapHigh := by rfl) : Keeps r t :=
  h.frame (hschedule ▸ .refl _) (fun b => noNewSource_of_bank (bank_of_banks hbanks b))
    (fun hs b hb => (bank_of_banks hbanks b).trans (hs.banks b hb))
    (fun hs => by rw [hclaims]; exact tableFits_congr hs.claims hup hstrap) (fun j hj => hjobs ▸ hj) hstrap

/-- Nothing changes of which the invariants speak. -/
theorem Keeps.same {t : State} (hlinks : t.links = s.links := by rfl) (hbanks : t.banks = s.banks := by rfl)
    (hschedule : t.schedule = s.schedule := by rfl) (hclaims : t.claims = s.claims := by rfl)
    (hjobs : t.engine.jobs = s.engine.jobs := by rfl) (hstrap : t.strapHigh = s.strapHigh := by rfl) : Keeps r t :=
  h.links (fun l => by rw [State.link, hlinks]; rfl) hbanks hschedule hclaims hjobs hstrap

/-- Entries and jobs leave, or stay with their marks changed. -/
theorem Keeps.entries {t : State} (hentries : EntriesOf s.schedule t.schedule)
    (hjobs : ∀ j ∈ t.engine.jobs, j ∈ s.engine.jobs := by exact fun _ => id) (hlinks : t.links = s.links := by rfl)
    (hbanks : t.banks = s.banks := by rfl) (hclaims : t.claims = s.claims := by rfl)
    (hstrap : t.strapHigh = s.strapHigh := by rfl) : Keeps r t :=
  h.frame hentries (fun b => noNewSource_of_bank (bank_of_banks hbanks b))
    (fun hs b hb => (bank_of_banks hbanks b).trans (hs.banks b hb))
    (fun hs => by
      rw [hclaims]
      exact tableFits_congr hs.claims (fun l => by rw [State.link, hlinks]; rfl) hstrap) hjobs hstrap

/-- One bank changes without gaining a source: an enabled bank, or in a way that leaves a bank at its defaults there. -/
theorem Keeps.oneBank {t : State} {b : BankIx} {f : Bank → Bank} (hbanks : t.banks = upd s.banks b f)
    (hsource : NoNewSource (s.working b) (f (s.bank b)).working)
    (henabled : AbsentIdle s → s.enabled b = true ∨ f Bank.default = Bank.default)
    (hentries : EntriesOf s.schedule t.schedule := by exact .refl _)
    (hjobs : ∀ j ∈ t.engine.jobs, j ∈ s.engine.jobs := by exact fun _ => id)
    (hup : ∀ l, (t.link l).up = (s.link l).up := by exact fun _ => rfl) (hclaims : t.claims = s.claims := by rfl)
    (hstrap : t.strapHigh = s.strapHigh := by rfl) : Keeps r t := by
  refine h.frame hentries (fun c => ?_) (fun hs c hc => ?_)
    (fun hs => by rw [hclaims]; exact tableFits_congr hs.claims hup hstrap) hjobs hstrap
  · rw [working_upd hbanks]
    split
    · rename_i hcb
      exact hcb ▸ hsource
    · exact .refl _
  · rw [State.bank, hbanks, pick_upd]
    split
    · rename_i hcb
      subst hcb
      obtain hon | hdefault := henabled hs
      · rw [hon] at hc
        cases hc
      · have hidle : pick s.banks c = Bank.default := hs.banks c hc
        rw [hidle, hdefault]
    · exact hs.banks c hc

/-! ### Links, claims and levers -/

theorem Keeps.modLink (l : LinkIx) {f : Link → Link} (hf : (f (s.link l)).up = (s.link l).up) :
    Keeps r (s.modLink l f) :=
  h.links fun m => by
    by_cases hm : m = l
    · subst hm
      rwa [State.link_modLink_same]
    · rw [State.link_modLink_other s hm]

theorem Keeps.send (l : LinkIx) (f : TxFrame) : Keeps r (s.send l f) := h.modLink l (Link.place_up ..)

theorem Keeps.notify (o : Origin) (reason : Reason) (b : Option BankIx) : Keeps r (s.notify o reason b) := by
  cases o with
  | link p tag => exact h.send p _
  | line n => exact h.same

/-- The Claim Table changes, where the links may just have gone UP or DOWN: the lever registers that follow are those of
enabled banks (R40, R100, R106). -/
theorem Keeps.reclaim {u : State} {claims : Vector (Option Claim) 25}
    (htable : AbsentIdle s → TableFits u claims) (hbanks : u.banks = s.banks := by rfl)
    (hschedule : u.schedule = s.schedule := by rfl) (hclaims : u.claims = s.claims := by rfl)
    (hjobs : u.engine.jobs = s.engine.jobs := by rfl) (hstrap : u.strapHigh = s.strapHigh := by rfl) :
    Keeps r (u.setClaims claims) := by
  have hbank : ∀ b, u.bank b = s.bank b := bank_of_banks hbanks
  refine h.frame (t := u.setClaims claims) (by rw [State.setClaims_schedule, hschedule]; exact .refl _) (fun b => ?_)
    (fun hs b hb => ?_) (fun hs => ?_) (fun j hj => hjobs ▸ hj) hstrap
  · rw [State.working, State.working, State.bank_setClaims, hbank]
    split
    · exact .refl _
    · exact leverCleared_noNewSource _
  · have hon : u.enabled b = false := by rw [State.enabled, hstrap]; exact hb
    have hafter := absent_empty (htable hs) (elementBank_transElement b) hon
    have hbefore : u.claim (transElement b) = none := by
      rw [State.claim, hclaims]
      exact absent_empty hs.claims (elementBank_transElement b) hb
    rw [State.bank_setClaims, hafter, hbefore, if_pos rfl, hbank]
    exact hs.banks b hb
  · exact tableFits_congr (htable hs) (State.setClaims_up u claims) rfl

theorem Keeps.setClaims {claims : Vector (Option Claim) 25} (htable : AbsentIdle s → TableFits s claims) :
    Keeps r (s.setClaims claims) := h.reclaim htable

theorem Keeps.clearLeversOf (l : LinkIx) : Keeps r (s.clearLeversOf l) := by
  refine h.frame (.refl _) (fun b => ?_) (fun hs b hb => ?_)
    (fun hs => tableFits_congr hs.claims (fun _ => rfl) rfl) (fun _ => id)
  · rw [State.working, State.working, bank_clearLeversOf]
    split
    · exact leverCleared_noNewSource _
    · exact .refl _
  · rw [bank_clearLeversOf, hs.banks b hb]
    exact if_neg fun ⟨x, hx, _⟩ => by cases hx

/-- What a link that is DOWN by now has left behind (R106, R113). -/
theorem Keeps.settle (l : LinkIx) : Keeps r (s.settle l) := by
  unfold State.settle
  split
  · exact h
  · rename_i hdown
    refine (h.clearLeversOf l).setClaims fun hs => ?_
    exact orphanedClaims_fits (s := s.clearLeversOf l) hs.claims (Bool.eq_false_iff.mpr hdown) (fun _ _ => rfl) rfl

theorem Keeps.writeLever (l : LinkIx) {b : BankIx} (hb : s.enabled b = true) (position : Nat) :
    Keeps r (s.writeLever l b position) :=
  h.oneBank (f := fun k => { k with lever := some { position := clampTen position, writer := l } }) rfl (.refl _)
    fun _ => .inl hb

/-! ### The schedule list (R71, R72, R85, R88) -/

/-- New entries for enabled banks, several of them takes (R71). -/
theorem Keeps.insertAction (due : FieldNo) (o : Origin) {bs : List BankIx} {a : Action}
    (hbs : ∀ b ∈ bs, s.enabled b = true) (htake : 2 ≤ bs.length → a.isTake = true) :
    Keeps r (s.insertAction due o bs a) where
  acyclic hr := by
    obtain ⟨htakes, hsafe⟩ := (reentryAcyclic_iff s).mp (h.acyclic hr)
    refine (reentryAcyclic_iff _).mpr ⟨?_, safe_of_changed (s := s) (b := 0) (fun c _ => .refl _) hsafe (hsafe 0)⟩
    exact Schedule.linkedTakes_insert (Schedule.newEntries_linked htake due o s.nextSet) htakes
  idle hr := by
    have hs := h.idle hr
    refine ⟨tableFits_congr hs.claims (fun _ => rfl) rfl, hs.banks, fun e he => ?_, hs.jobs⟩
    obtain he | he := mem_insertEntries.mp he
    · obtain ⟨b, hb, rfl⟩ := List.mem_map.mp he
      exact hbs b hb
    · exact hs.entries e he

theorem Keeps.dropRecall (b : BankIx) : Keeps r (s.dropRecall b) :=
  h.oneBank (f := fun k => { k with staging := none }) rfl (.refl _) (fun _ => .inr rfl)
    (entriesOf_subset fun _ he => List.mem_of_mem_filter he)
    fun j hj => by
      simp only [State.dropRecall, Schedule.dropRecall_jobs] at hj
      exact List.mem_of_mem_filter hj

theorem Keeps.supersede (b : BankIx) : Keeps r (s.supersede b) := by
  unfold State.supersede
  split
  · exact (h.dropRecall b).notify ..
  · exact h

/-- A job joins the queue: a recall job of an enabled bank, or none (R85, R161). -/
theorem Keeps.queueJob {j : Job} (hj : ∀ b, j.isRecallOf b = true → s.enabled b = true) : Keeps r (s.queueJob j) where
  acyclic hr := acyclic_of_noNewSource (h.acyclic hr) (.refl _) fun _ => .refl _
  idle hr := by
    have hs := h.idle hr
    refine ⟨tableFits_congr hs.claims (fun _ => rfl) rfl, hs.banks, hs.entries, fun i hi b hb => ?_⟩
    simp only [State.queueJob, Schedule.enqueue_jobs, List.mem_append, List.mem_singleton] at hi
    obtain hi | rfl := hi
    · exact hs.jobs i hi b hb
    · exact hj b hb

omit h in
theorem supersede_strapHigh (s : State) (b : BankIx) : (s.supersede b).strapHigh = s.strapHigh := by
  unfold State.supersede
  split <;> rfl

theorem Keeps.insertRecall (due : FieldNo) (o : Origin) {b : BankIx} (hb : s.enabled b = true) (register : Nat) :
    Keeps r (s.insertRecall due o b register) := by
  have hon : (s.supersede b).enabled b = true := by rw [State.enabled, supersede_strapHigh]; exact hb
  have hentry : Keeps r ((s.supersede b).insertAction due o [b] (.recallEffect register false)) :=
    (h.supersede b).insertAction due o (fun c hc => List.mem_singleton.mp hc ▸ hon) fun htwo => absurd htwo (by simp)
  refine hentry.queueJob fun c hc => ?_
  have hbc : b = c := by simpa [Job.isRecallOf] using hc
  exact hbc ▸ hon

end

end Sys2Proof.EnabledBanks
end

section
/-! The re-entry relation, the claims and the banks that are not enabled under the sweep (R76 to R84), the field (R13,
R105, R142, R153) and the Memory Engine (R86, R87, R159). -/

open Sys2Proof Sys2Proof.Machine Sys2Proof.TransitionController Sys2Proof.TransitionArithmetic Sys2Proof.Reentry

namespace Sys2Proof.EnabledBanks

section
variable {r s : State} (h : Keeps r s)
include h

/-! ### The sweep (R76 to R84) -/

/-- Banks of the table change without gaining a source, enabled ones alone. -/
theorem Keeps.enabledBanks {t : State} (hsources : ∀ b, NoNewSource (s.working b) (t.working b))
    (hbanks : AbsentIdle s → ∀ b, s.enabled b = false → t.bank b = s.bank b)
    (hentries : EntriesOf s.schedule t.schedule := by exact .refl _) (hlinks : t.links = s.links := by rfl)
    (hclaims : t.claims = s.claims := by rfl) (hjobs : t.engine.jobs = s.engine.jobs := by rfl)
    (hstrap : t.strapHigh = s.strapHigh := by rfl) : Keeps r t :=
  h.frame hentries hsources (fun hs b hb => (hbanks hs b hb).trans (hs.banks b hb))
    (fun hs => by
      rw [hclaims]
      exact tableFits_congr hs.claims (fun l => by rw [State.link, hlinks]; rfl) hstrap)
    (fun j hj => hjobs ▸ hj) hstrap

/-- Sweep-end goes to the enabled banks (R84). -/
theorem Keeps.endSweep (n : FieldNo) : Keeps r (s.endSweep n) := by
  have hbank : ∀ b, (s.endSweep n).bank b = if s.enabled b then { s.bank b with updateDue := some n } else s.bank b :=
    fun b => pick_tab ..
  refine h.enabledBanks (fun b => ?_) fun _ b hb => ?_
  · rw [State.working, State.working, hbank]
    split <;> exact .refl _
  · rw [hbank, hb]
    rfl

theorem Keeps.settleSweep : Keeps r s.settleSweep := by
  unfold State.settleSweep
  split
  · split
    · exact h.endSweep _
    · exact h
  · exact h

theorem Keeps.startSweep (n : FieldNo) : Keeps r (s.startSweep n) := by
  refine Keeps.settleSweep (h.entries fun e he => ?_)
  obtain ⟨x, hx, rfl⟩ := List.mem_map.mp he
  exact ⟨x, hx, rfl, rfl, rfl⟩

/-- A refused recall leaves with its job and record (R79, R162). -/
theorem Keeps.refuseEntry (e : Entry) (reason : Reason) : Keeps r (s.refuseEntry e reason) := by
  unfold State.refuseEntry
  refine Keeps.notify ?_ ..
  split
  · refine h.oneBank (f := fun k => { k with staging := none }) rfl (.refl _) (fun _ => .inr rfl) (.refl _)
      fun j hj => ?_
    simp only [Schedule.dropRecall_jobs] at hj
    exact List.mem_of_mem_filter hj
  · exact h

theorem Keeps.refuseEntries (es : List Entry) (reason : Reason) :
    Keeps r (es.foldl (fun t e => t.refuseEntry e reason) s) := by
  induction es generalizing s with
  | nil => exact h
  | cons e es ih => exact ih (h.refuseEntry e reason)

/-- An action performed on an enabled bank, of which each source that it leaves there may stand there (R80). -/
theorem Keeps.applyEntry (w : Sweep) {e : Entry} (count : Nat) (note : Option Reason)
    (hsafe : r.ReentryAcyclic → SafeRecord s e.bank ((s.bank e.bank).perform e.action w.target (s.dwellFields e.bank)
      s.prepareFields).working)
    (henabled : AbsentIdle r → s.enabled e.bank = true) : Keeps r (s.applyEntry w e count note) := by
  have hperformed : Keeps r (State.perform { s with sweep := some { w with used := w.used + count } } e.bank e.action
      w.target) := by
    constructor
    · intro hr
      obtain ⟨htakes, hall⟩ := (reentryAcyclic_iff s).mp (h.acyclic hr)
      have hworking := working_upd (s := s) (b := e.bank)
        (f := fun k => k.perform e.action w.target (s.dwellFields e.bank) s.prepareFields) (t := State.perform
        { s with sweep := some { w with used := w.used + count } } e.bank e.action w.target) rfl
      refine (reentryAcyclic_iff _).mpr ⟨htakes, safe_of_changed (b := e.bank) (fun c hc => ?_) hall ?_⟩
      · rw [hworking, if_neg hc]
        exact .refl _
      · rw [hworking, if_pos rfl]
        exact hsafe hr
    · intro hr
      have hs := h.idle hr
      refine ⟨tableFits_congr hs.claims (fun _ => rfl) rfl, fun b hb => ?_, hs.entries, hs.jobs⟩
      have hon := henabled hr
      have hother : b ≠ e.bank := fun hbe => by
        rw [← hbe, show s.enabled b = false from hb] at hon
        cases hon
      exact (pick_upd_other _ hother _).trans (hs.banks b hb)
  cases note with
  | none => exact hperformed
  | some reason => exact hperformed.notify ..

theorem Keeps.dealEntry (w : Sweep) {e : Entry} {left rest : List Entry} (hlist : s.schedule = left ++ e :: rest) :
    Keeps r (s.dealEntry w e left rest) := by
  have he : e ∈ s.schedule := by rw [hlist]; exact List.mem_append_right _ List.mem_cons_self
  have hcut : Keeps r { s with schedule := left ++ rest } := by
    refine h.entries (entriesOf_subset fun x hx => ?_)
    rw [hlist]
    exact (List.Sublist.append_left (List.sublist_cons_self e rest) left).subset hx
  unfold State.dealEntry
  split
  · rename_i count _
    refine h.enabledBanks (fun b => ?_) (fun hs b hb => ?_) fun x hx => ?_
    · rw [State.working, State.working, State.deferBank, State.bank, State.bank, pick_upd]
      split
      · rename_i hbe
        exact hbe ▸ noNewSource_of_slots
      · exact .refl _
    · have hon := hs.entries e he
      have hother : b ≠ e.bank := fun hbe => by
        rw [← hbe, hb] at hon
        cases hon
      exact pick_upd_other _ hother _
    · rw [hlist]
      obtain hx | hx := List.mem_append.mp hx
      · exact ⟨x, List.mem_append_left _ hx, rfl, rfl, rfl⟩
      · obtain rfl | hx := List.mem_cons.mp hx
        · exact ⟨e, List.mem_append_right _ List.mem_cons_self, rfl, rfl, rfl⟩
        · exact ⟨x, List.mem_append_right _ (List.mem_cons_of_mem _ hx), rfl, rfl, rfl⟩
  · exact hcut.refuseEntry ..
  · rename_i hout
    refine hcut.applyEntry w _ _ (fun hr => ?_) fun hr => (h.idle hr).entries e he
    have hsafe := ((reentryAcyclic_iff _).mp (hcut.acyclic hr)).2 e.bank
    have hjudge : State.judge { s with schedule := left ++ rest } e.bank e.action w.target = .goAhead _ _ :=
      judge_of_applied hout
    exact perform_safe hjudge hsafe _ _

omit h in
theorem dealMember_strapHigh (s : State) (w : Sweep) (e : Entry) (j : Judgement) :
    (s.dealMember w e j).strapHigh = s.strapHigh := by
  cases j with
  | refuse reason =>
    change (s.refuseEntry e reason).strapHigh = s.strapHigh
    unfold State.refuseEntry
    split <;> rfl
  | holdBack => rfl
  | goAhead count note => cases note <;> rfl

/-- The members of a linked set dealt with one after another: takes, which bring no source (R83). -/
theorem Keeps.dealMembers (w : Sweep) (ms : List (Entry × Judgement))
    (htakes : r.ReentryAcyclic → ∀ m ∈ ms, m.1.action.isTake = true)
    (henabled : AbsentIdle r → ∀ m ∈ ms, s.enabled m.1.bank = true) :
    Keeps r (ms.foldl (fun t m => t.dealMember w m.1 m.2) s) := by
  induction ms generalizing s with
  | nil => exact h
  | cons m ms ih =>
    obtain ⟨e, judged⟩ := m
    refine ih ?_ (fun hr x hx => htakes hr x (List.mem_cons_of_mem _ hx)) fun hr x hx => ?_
    · cases judged with
      | refuse reason => exact h.refuseEntry e reason
      | holdBack => exact h
      | goAhead count note =>
        refine h.applyEntry w count note (fun hr => ?_) fun hr => henabled hr _ List.mem_cons_self
        have hsafe := ((reentryAcyclic_iff s).mp (h.acyclic hr)).2 e.bank
        exact hsafe.keep (perform_take_noNewSource (htakes hr _ List.mem_cons_self) _ _ _ _)
    · rw [State.enabled, dealMember_strapHigh]
      exact henabled hr x (List.mem_cons_of_mem _ hx)

theorem Keeps.dealSet (w : Sweep) {members left rest : List Entry} (hlist : s.schedule = left ++ members ++ rest)
    (hlinked : ∀ e ∈ members, e.linked.isSome = true) : Keeps r (s.dealSet w members left rest) := by
  have hmem : ∀ e ∈ members, e ∈ s.schedule := fun e he => by
    rw [hlist]
    exact List.mem_append_left _ (List.mem_append_right _ he)
  have hcut : Keeps r { s with schedule := left ++ rest } := by
    refine h.entries (entriesOf_subset fun x hx => ?_)
    rw [hlist]
    exact ((List.sublist_append_left left members).append (.refl rest)).subset hx
  unfold State.dealSet
  split
  · exact hcut.refuseEntries members .busy
  split
  · refine h.enabledBanks (fun b => ?_) (fun hs b hb => ?_) fun x hx => ?_
    · rw [State.working, State.working, State.bank, State.bank, pick_tab]
      split
      · exact noNewSource_of_slots
      · exact .refl _
    · rw [State.bank, pick_tab]
      refine if_neg fun hany => ?_
      obtain ⟨e, he, heb⟩ := List.any_eq_true.mp hany
      have hon := hs.entries e (hmem e he)
      rw [eq_of_beq heb, hb] at hon
      cases hon
    · rw [hlist]
      obtain hx | hx := List.mem_append.mp hx
      · obtain hx | hx := List.mem_append.mp hx
        · exact ⟨x, List.mem_append_left _ (List.mem_append_left _ hx), rfl, rfl, rfl⟩
        · obtain ⟨e, he, rfl⟩ := List.mem_map.mp hx
          exact ⟨e, List.mem_append_left _ (List.mem_append_right _ he), rfl, rfl, rfl⟩
      · exact ⟨x, List.mem_append_right _ hx, rfl, rfl, rfl⟩
  · refine hcut.dealMembers w _ (fun hr m hm => ?_) fun hr m hm => ?_
    · obtain ⟨e, he, rfl⟩ := List.mem_map.mp hm
      exact ((reentryAcyclic_iff s).mp (h.acyclic hr)).1 e (hmem e he) (hlinked e he)
    · obtain ⟨e, he, rfl⟩ := List.mem_map.mp hm
      exact (h.idle hr).entries e (hmem e he)

/-! ### The field (R13, R105, R142, R149 to R153) -/

theorem Keeps.fieldStart : Keeps r s.fieldStart := by
  have hraised : Keeps r { s with ref := { s.ref with counter := s.ref.counter + 1 } } := h.same
  exact (hraised.setClaims fun hs => agedClaims_fits hs.claims _).startSweep _

theorem Keeps.synthetic : Keeps r s.synthetic := by
  have hdeadline : Keeps r { s with now := max s.now s.ref.deadline, ref := s.ref.syntheticStart } := h.same
  exact hdeadline.fieldStart

theorem Keeps.pulse : Keeps r s.pulse := by
  unfold State.pulse
  dsimp only
  split
  · exact h.same
  split
  · exact Keeps.fieldStart h.same
  split
  · exact Keeps.fieldStart h.same
  · exact h.same

/-- Only an enabled bank has been told of sweep-end (R84). -/
theorem Keeps.publishBank {b : BankIx} {n : FieldNo} (hdue : (s.bank b).updateDue = some n) :
    Keeps r (s.publishBank b n) := by
  refine h.oneBank (f := fun _ => (s.bank b).publish n (s.dwellFields b)) rfl
    ((brought_noNewSource ..).trans noNewSource_of_slots) (fun hs => .inl ?_) (hup := fun l => ?_)
  · by_contra hoff
    rw [hs.banks b (by simpa using hoff)] at hdue
    cases hdue
  · simp only [State.publishBank, State.link]
    split
    · rw [pick_tab]
      exact Link.place_up ..
    · rfl

theorem Keeps.gather (n : FieldNo) (b : BankIx) : Keeps r (s.gather n b) := by
  unfold State.gather
  dsimp only
  split <;> exact h.same

/-! ### The Memory Engine (R86, R87, R159 to R171, R183) -/

theorem Keeps.loadItem (entry : Nat × BitVec 16) : Keeps r (s.loadItem entry) := by
  unfold State.loadItem
  split
  · split
    · exact h.same
    · exact h
  · exact h

theorem Keeps.loadItems (entries : List (Nat × BitVec 16)) : Keeps r (entries.foldl State.loadItem s) := by
  induction entries generalizing s with
  | nil => exact h
  | cons entry entries ih => exact ih (h.loadItem entry)

theorem Keeps.startUp (outcome : Option (List (Nat × BitVec 16))) : Keeps r (s.startUp outcome) := by
  cases outcome with
  | none => exact h.same
  | some entries => exact (h.loadItems entries).same

theorem Keeps.finishJob : Keeps r s.finishJob :=
  h.entries (.refl _) fun j hj => by
    simp only [State.finishJob, Schedule.activate_jobs] at hj
    exact List.mem_of_mem_tail hj

theorem Keeps.drained : Keeps r s.drained := h.same (hjobs := Schedule.activate_jobs ..)

theorem Keeps.jobFailed (reason : Reason) : Keeps r (s.jobFailed reason) := by
  unfold State.jobFailed
  split
  · exact Keeps.notify (h.entries (entriesOf_subset fun _ he => List.mem_of_mem_filter he)) ..
  · exact h.send ..
  · exact h.send ..
  · exact h.startUp _
  · exact h

theorem Keeps.jobWritten : Keeps r s.jobWritten := by
  unfold State.jobWritten
  split
  · exact h.send ..
  · exact Keeps.send h.same ..
  · exact h

omit h in
theorem markStaged_bank (b : BankIx) (e : Entry) : (markStaged b e).bank = e.bank := by
  unfold markStaged
  split
  · split <;> rfl
  · rfl

/-- A record is staged at the bank of the active recall job (R86, R166). -/
theorem Keeps.jobStaged (e : Effect) : Keeps r (s.jobStaged e) := by
  unfold State.jobStaged
  split
  · rename_i b register o rest hjobs
    refine h.oneBank (f := fun k => { k with staging := some e }) rfl (.refl _) (fun hs => .inl ?_) fun x hx => ?_
    · exact hs.jobs _ (hjobs ▸ List.mem_cons_self) b (by simp [Job.isRecallOf])
    · obtain ⟨y, hy, rfl⟩ := List.mem_map.mp hx
      obtain ⟨hlinked, htake⟩ := markStaged_from b y
      exact ⟨y, hy, hlinked, htake, markStaged_bank b y⟩
  · exact h

theorem Keeps.carryOn (p : Progress) : Keeps r (s.carryOn p) := by
  cases p with
  | readOn stage a => exact h.same
  | writeOn writes => exact h.same (hjobs := Schedule.writing_jobs ..)
  | failed reason => exact (h.jobFailed reason).finishJob
  | staged e => exact (h.jobStaged e).finishJob
  | written => exact h.jobWritten.finishJob
  | loaded entries => exact (h.startUp entries).finishJob

theorem Keeps.ready (data : Byte) : Keeps r (s.ready data) := by
  unfold State.ready
  split
  · exact h
  · exact h.drained
  · exact Keeps.carryOn (s := s.portIdle) h.same _

theorem Keeps.expired : Keeps r s.expired := by
  unfold State.expired
  split
  · exact h
  · exact Keeps.drained h.same
  · rename_i access _ _ _
    have hidle : Keeps r (s.reach (access.raised + Config.memoryTime)).portIdle := h.same
    exact (hidle.jobFailed _).finishJob

theorem Keeps.readyIn (data : Byte) (dt : Micros) : Keeps r (s.readyIn data dt) := by
  unfold State.readyIn
  split
  · exact h.expired.same
  · exact Keeps.ready (s := s.after dt) h.same data

end

end Sys2Proof.EnabledBanks
end

section
/-! The re-entry relation, the claims and the banks that are not enabled under every served request (R126 to R137) and
under the GPI lines (R173 to R175). -/

open Sys2Proof Sys2Proof.Machine Sys2Proof.TransitionController Sys2Proof.TransitionArithmetic Sys2Proof.Reentry

namespace Sys2Proof.EnabledBanks

/-! ### What the value tests let through (R65, R94) -/

/-- A plan that passes its value tests names enabled banks and elements that are there. -/
structure PlanFits (s : State) (p : Plan) : Prop where
  banks : ∀ b ∈ p.banks, s.enabled b = true
  elements : ∀ e ∈ p.elements, Present s e

theorem planFits_one {s : State} {c : Byte} {b : BankIx} (hb : s.bankOf c = .ok b) {e : ElemIx} (a : Action)
    (he : elementBank e = some b) : PlanFits s { banks := [b], action := a, elements := [e] } := by
  have hon := Schedule.bankOf_enabled hb
  refine ⟨fun c hc => ?_, fun f hf => ?_⟩
  · exact List.mem_singleton.mp hc ▸ hon
  · exact List.mem_singleton.mp hf ▸ present_of_bank he hon

theorem banksOf_enabled {s : State} {mask : Byte} {bs : List BankIx} (h : s.banksOf mask = .ok bs) :
    ∀ b ∈ bs, s.enabled b = true := by
  unfold State.banksOf at h
  dsimp only at h
  split at h
  · cases h
  · rename_i hgood
    cases h
    simp only [not_or, Bool.not_eq_false, List.all_eq_true] at hgood
    obtain ⟨-, -, hall⟩ := hgood
    exact hall

theorem planMask_fits {s : State} {mask : Byte} {a : Action} {p : Plan} (h : s.planMask mask a = .ok p) :
    PlanFits s p := by
  obtain ⟨bs, hbs, h⟩ := bind_eq_ok h
  cases h
  refine ⟨banksOf_enabled hbs, fun e he => ?_⟩
  obtain ⟨b, hb, rfl⟩ := List.mem_map.mp he
  exact present_of_bank (elementBank_transElement b) (banksOf_enabled hbs b hb)

theorem planSelect_fits {s : State} {bank bus source : Byte} {p : Plan} (h : s.planSelect bank bus source = .ok p) :
    PlanFits s p := by
  obtain ⟨b, hb, h⟩ := bind_eq_ok h
  obtain ⟨u, -, h⟩ := bind_eq_ok h
  obtain ⟨c, -, h⟩ := bind_eq_ok h
  obtain ⟨-, -, h⟩ := bind_eq_ok h
  cases h
  exact planFits_one hb _ (elementBank_bkgdElement b)

theorem planKeyCut_fits {s : State} {bank keyer onOff : Byte} {p : Plan} (h : s.planKeyCut bank keyer onOff = .ok p) :
    PlanFits s p := by
  obtain ⟨b, hb, h⟩ := bind_eq_ok h
  obtain ⟨k, -, h⟩ := bind_eq_ok h
  obtain ⟨on, -, h⟩ := bind_eq_ok h
  cases h
  exact planFits_one hb _ (elementBank_keyElement b k)

theorem planKeySetup_fits {s : State} {bank keyer mask fill key kind : Byte} {clip gain : Nat} {invert : Byte}
    {p : Plan} (h : s.planKeySetup bank keyer mask fill key kind clip gain invert = .ok p) : PlanFits s p := by
  obtain ⟨b, hb, h⟩ := bind_eq_ok h
  obtain ⟨k, -, h⟩ := bind_eq_ok h
  obtain ⟨-, -, h⟩ := bind_eq_ok h
  obtain ⟨t, -, h⟩ := bind_eq_ok h
  obtain ⟨i, -, h⟩ := bind_eq_ok h
  obtain ⟨f, -, h⟩ := bind_eq_ok h
  obtain ⟨y, -, h⟩ := bind_eq_ok h
  obtain ⟨-, -, h⟩ := bind_eq_ok h
  obtain ⟨-, -, h⟩ := bind_eq_ok h
  cases h
  exact planFits_one hb _ (elementBank_keyElement b k)

theorem planTransSetup_fits {s : State} {bank mask kind : Byte} {rate : Nat}
    {pattern direction softness width colour : Byte} {p : Plan}
    (h : s.planTransSetup bank mask kind rate pattern direction softness width colour = .ok p) : PlanFits s p := by
  obtain ⟨b, hb, h⟩ := bind_eq_ok h
  obtain ⟨-, -, h⟩ := bind_eq_ok h
  obtain ⟨k, -, h⟩ := bind_eq_ok h
  obtain ⟨q, -, h⟩ := bind_eq_ok h
  obtain ⟨d, -, h⟩ := bind_eq_ok h
  obtain ⟨c, -, h⟩ := bind_eq_ok h
  cases h
  exact planFits_one hb _ (elementBank_transElement b)

theorem planLayers_fits {s : State} {bank set : Byte} {p : Plan} (h : s.planLayers bank set = .ok p) :
    PlanFits s p := by
  obtain ⟨b, hb, h⟩ := bind_eq_ok h
  obtain ⟨v, -, h⟩ := bind_eq_ok h
  cases h
  exact planFits_one hb _ (elementBank_transElement b)

theorem bankRegister_enabled {s : State} {bank register : Byte} {b : BankIx} {n : Nat}
    (h : s.bankRegister bank register = .ok (b, n)) : s.enabled b = true := by
  obtain ⟨c, hc, h⟩ := bind_eq_ok h
  obtain ⟨m, -, h⟩ := bind_eq_ok h
  cases h
  exact Schedule.bankOf_enabled hc

theorem elementOf_present {s : State} {c : Byte} {e : ElemIx} (h : s.elementOf c = .ok e) : Present s e := by
  unfold State.elementOf at h
  split at h
  · split at h
    · rename_i b hb
      split at h
      · rename_i hon
        cases h
        exact present_of_bank hb hon
      · cases h
    · rename_i hnone
      cases h
      intro b hb
      rw [hnone] at hb
      cases hb
  · cases h

/-! ### Both resets (R15, R137) -/

theorem meCode_not_default (c : BankIx) : meCode c ∉ Bank.default.working.buses := by
  revert c
  decide

/-- With every bank at its defaults, an empty list, no claim and no recall job, as both resets leave them, nothing is
re-entered and every bank that is not enabled is idle (R15). -/
theorem defaults_fit {s : State} (hbanks : s.banks = Vector.replicate 4 Bank.default) (hschedule : s.schedule = [])
    (hclaims : s.claims = Vector.replicate 25 none) (hjobs : ∀ j ∈ s.engine.jobs, ∀ b, j.isRecallOf b = false) :
    s.ReentryAcyclic ∧ AbsentIdle s := by
  have hbank : ∀ b, s.bank b = Bank.default := fun b => by rw [State.bank, hbanks, pick_replicate]
  refine ⟨(reentryAcyclic_iff s).mpr ⟨fun e he => ?_, fun b c hc d hcd => ?_⟩, fun e c hc => ?_, fun b _ => hbank b,
    fun e he => ?_, fun j hj b hrecall => ?_⟩
  · rw [hschedule] at he
    cases he
  · rw [State.working, hbank, hcd] at hc
    exact absurd hc (meCode_not_default d)
  · rw [hclaims, pick_replicate] at hc
    cases hc
  · rw [hschedule] at he
    cases he
  · rw [hjobs j hj b] at hrecall
    cases hrecall

section
variable {r s : State} (h : Keeps r s) (o : Offer)
include h

/-! ### Requests (R126 to R137) -/

theorem Keeps.takeRequest : Keeps r (s.takeRequest o) := h.links (State.takeRequest_up s o)

theorem Keeps.refuse (reason : Reason) (holder : Option LinkIx) : Keeps r (s.refuse o reason holder) := h.send ..

theorem Keeps.accept (info : Accepted) : Keeps r (s.accept o info) := h.send ..

theorem Keeps.useElements {p : LinkIx} (hup : (s.link p).up = true) {es : List ElemIx}
    (hes : ∀ e ∈ es, Present s e) : Keeps r (s.useElements p es) :=
  h.setClaims fun hs => usedClaims_fits hs.claims hup hes

theorem Keeps.serveScheduled (hup : (s.link o.link).up = true) {plan : Except Reason Plan} (hlawful : LawfulPlan plan)
    (hplan : ∀ p, plan = .ok p → PlanFits s p) (lead : Byte) : Keeps r (s.serveScheduled o plan lead) := by
  unfold State.serveScheduled
  split
  · exact h.refuse ..
  rename_i p
  obtain ⟨hbanks, hpresent⟩ := hplan p rfl
  split
  · exact h.refuse ..
  split
  · exact h.refuse ..
  · have hentries := (h.useElements hup hpresent).insertAction (s.dueField lead.toNat) (.link o.link o.tag) hbanks
      (hlawful p rfl).1
    exact (hentries.accept o _).settle _

theorem Keeps.serveRecall (hup : (s.link o.link).up = true) (bank register lead : Byte) :
    Keeps r (s.serveRecall o bank register lead) := by
  unfold State.serveRecall
  split
  · exact h.refuse ..
  rename_i b register hvalues
  have hon := bankRegister_enabled hvalues
  split
  · exact h.refuse ..
  split
  · exact h.refuse ..
  split
  · exact h.refuse ..
  · have hused := h.useElements hup fun e he => present_of_bank (elementBank_bankElements b e he) hon
    have hrecall := hused.insertRecall (s.dueField lead.toNat) (.link o.link o.tag) hon register
    exact (hrecall.accept o _).settle _

theorem Keeps.serveLever (hup : (s.link o.link).up = true) (bank : Byte) (position : Nat) :
    Keeps r (s.serveLever o bank position) := by
  unfold State.serveLever
  split
  · exact h.refuse ..
  rename_i b hb
  have hon := Schedule.bankOf_enabled hb
  split
  · exact h.refuse ..
  · have hused := h.useElements hup (es := [transElement b]) fun e he =>
      List.mem_singleton.mp he ▸ present_of_bank (elementBank_transElement b) hon
    exact (hused.writeLever o.link hon position).settle _

theorem Keeps.serveClaim (hup : (s.link o.link).up = true) (element : Byte) : Keeps r (s.serveClaim o element) := by
  unfold State.serveClaim
  split
  · exact h.refuse ..
  rename_i e he
  split
  · exact h.refuse ..
  · have hlocked := h.setClaims fun hs => lockFor_fits hs.claims hup (elementOf_present he)
    exact (hlocked.accept o _).settle _

/-- A claim leaves its element (R103, R104). -/
theorem Keeps.emptyClaim (e : ElemIx) : Keeps r (s.setClaim e none) :=
  h.setClaims fun hs => updClaim_fits hs.claims fun _ hc => by cases hc

theorem Keeps.serveRelease (element : Byte) : Keeps r (s.serveRelease o element) := by
  unfold State.serveRelease
  split
  · exact h.refuse ..
  split
  · exact (h.emptyClaim _).accept o _
  · exact h.refuse ..

theorem Keeps.serveBreak (element : Byte) : Keeps r (s.serveBreak o element) := by
  unfold State.serveBreak
  split
  · exact h.refuse ..
  split
  · exact h.refuse ..
  split
  · exact h.refuse ..
  split
  · exact h.refuse ..
  split
  · exact h.refuse ..
  · exact (h.emptyClaim _).accept o _

theorem Keeps.serveStore (bank register : Byte) : Keeps r (s.serveStore o bank register) := by
  unfold State.serveStore
  split
  · exact h.refuse ..
  split
  · exact h.refuse ..
  split
  · exact h.refuse ..
  · exact (h.queueJob fun _ hrecall => by cases hrecall).accept o _

theorem Keeps.useSystem (hup : (s.link o.link).up = true) : Keeps r (s.useElements o.link [systemElement]) :=
  h.useElements hup fun _ he => List.mem_singleton.mp he ▸ present_system s

theorem Keeps.serveSave (hup : (s.link o.link).up = true) : Keeps r (s.serveSave o) := by
  unfold State.serveSave
  split
  · exact h.refuse ..
  split
  · exact h.refuse ..
  · exact (((h.useSystem o hup).queueJob fun _ hrecall => by cases hrecall).accept o _).settle _

/-- Entries leave with their jobs and records (R89). -/
theorem Keeps.cancel (l : LinkIx) (tag : Byte) : Keeps r (s.cancel l tag) := by
  have hbank : ∀ b, (s.cancel l tag).bank b = s.bank b ∨ (s.cancel l tag).bank b = { s.bank b with staging := none } :=
    fun b => by
      simp only [State.cancel, State.bank, pick_tab]
      split
      · exact .inr rfl
      · exact .inl rfl
  refine h.frame (entriesOf_subset fun _ he => List.mem_of_mem_filter he) (fun b => ?_) (fun hs b hb => ?_)
    (fun hs => tableFits_congr hs.claims (fun _ => rfl) rfl) fun j hj => ?_
  · rw [State.working, State.working]
    obtain hsame | hemptied := hbank b
    · rw [hsame]
      exact .refl _
    · rw [hemptied]
      exact .refl _
  · obtain hsame | hemptied := hbank b
    · exact hsame.trans (hs.banks b hb)
    · rw [hemptied, hs.banks b hb]
      rfl
  · have hjobs := Schedule.dropRecalls_jobs s.engine s.now s.items
      ((indices 4).filter fun b => (s.schedule.filter (Entry.cancelledBy l tag)).any (Entry.isRecallOf b))
    have hmem : j ∈ (Schedule.dropRecalls s.engine s.now s.items
      ((indices 4).filter fun b => (s.schedule.filter (Entry.cancelledBy l tag)).any (Entry.isRecallOf b))).jobs := hj
    rw [hjobs] at hmem
    exact List.mem_of_mem_filter hmem

theorem Keeps.serveCancel (tag : Byte) : Keeps r (s.serveCancel o tag) := by
  unfold State.serveCancel
  dsimp only
  split
  · exact h.refuse ..
  · exact (h.cancel ..).accept o _

theorem Keeps.pruneAfter (number : Nat) : Keeps r (s.pruneAfter number) := by
  unfold State.pruneAfter
  split
  · exact h.setClaims fun hs => prunedClaims_fits hs.claims
  · exact h

theorem Keeps.serveConfig (hup : (s.link o.link).up = true) (item : Byte) (value : BitVec 16) :
    Keeps r (s.serveConfig o item value) := by
  unfold State.serveConfig
  split
  · exact h.refuse ..
  rename_i number v _
  split
  · exact h.refuse ..
  · have hstored : Keeps r ((s.useElements o.link [systemElement]).storeItem number v) := (h.useSystem o hup).same
    exact ((hstored.pruneAfter _).accept o _).settle _

omit h in
theorem keeps_softReset (r s : State) : Keeps r s.softReset := by
  obtain ⟨hacyclic, hidle⟩ := defaults_fit (s := s.softReset) rfl rfl rfl (fun j hj => by cases hj)
  exact ⟨fun _ => hacyclic, fun _ => hidle⟩

theorem Keeps.serveReset : Keeps r (s.serveReset o) := by
  unfold State.serveReset
  split
  · exact h.refuse ..
  · exact (keeps_softReset r s).accept o _

/-! ### Queries (R136) -/

theorem Keeps.queryOf (subject : Byte) {serve : State → Offer → Byte → State}
    (hserve : ∀ t o a, Keeps r t → Keeps r (serve t o a)) : Keeps r (s.queryOf subject serve) := by
  unfold State.queryOf
  split
  · dsimp only
    split
    · exact hserve _ _ _ (h.takeRequest _)
    split
    · exact h
    · exact (h.takeRequest _).refuse ..
  · exact h

theorem Keeps.serveQueryBank (argument : Byte) : Keeps r (s.serveQueryBank o argument) := by
  unfold State.serveQueryBank
  split
  · exact h.refuse ..
  · exact h.send ..

theorem Keeps.serveQueryClaims (argument : Byte) : Keeps r (s.serveQueryClaims o argument) := by
  unfold State.serveQueryClaims
  split
  · exact h.refuse ..
  · exact h.send ..

omit h in
theorem foldl_place_up (now : Micros) (fs : List TxFrame) (k : Link) :
    (fs.foldl (fun k f => Link.place now f k) k).up = k.up := by
  induction fs generalizing k with
  | nil => rfl
  | cons f fs ih => exact (ih _).trans (Link.place_up ..)

theorem Keeps.serveQuerySchedule : Keeps r (s.serveQuerySchedule o) := h.modLink o.link (foldl_place_up ..)

theorem Keeps.serveQueryGpi (argument : Byte) : Keeps r (s.serveQueryGpi o argument) := by
  unfold State.serveQueryGpi
  split
  · exact h.refuse ..
  · refine Keeps.send ?_ ..
    split
    · exact h.same
    · exact h

theorem Keeps.serveQueryConfig (argument : Byte) : Keeps r (s.serveQueryConfig o argument) := by
  unfold State.serveQueryConfig
  split
  · exact h.send ..
  · exact h.refuse ..

/-! ### GPI lines (R173 to R175) -/

theorem Keeps.gpiTake (n : LineIx) {a : Action} (ha : a.isTake = true) : Keeps r (s.gpiTake n a) := by
  unfold State.gpiTake
  dsimp only
  split
  · exact h
  split
  · exact h.same
  · exact h.insertAction _ _ (fun b hb => (List.mem_filter.mp hb).2) fun _ => ha

theorem Keeps.gpiRecall (n : LineIx) : Keeps r (s.gpiRecall n) := by
  unfold State.gpiRecall
  dsimp only
  split
  · exact h
  rename_i b hb
  split
  · exact h
  split
  · exact h.same
  · exact h.insertRecall _ _ (Schedule.bankOf_enabled hb) _

theorem Keeps.gpiAction (n : LineIx) : Keeps r (s.gpiAction n) := by
  unfold State.gpiAction
  split
  · exact h.gpiTake n rfl
  · exact h.gpiTake n rfl
  · exact h.gpiTake n rfl
  · exact h.gpiRecall n
  · exact h

theorem Keeps.modLine (n : LineIx) (f : GpiLine → GpiLine) : Keeps r (s.modLine n f) := h.same

theorem Keeps.acceptEdge (n : LineIx) : Keeps r (s.acceptEdge n) := by
  unfold State.acceptEdge
  dsimp only
  split
  · exact (h.modLine n _).gpiAction n
  · exact h.modLine n _

theorem Keeps.pinChange (n : LineIx) (level : Bool) : Keeps r (s.pinChange n level) := by
  unfold State.pinChange
  dsimp only
  split
  · exact h.modLine n _
  split
  · exact h.modLine n _
  split
  · exact (h.modLine n _).acceptEdge n
  · exact h.modLine n _

end

end Sys2Proof.EnabledBanks
end

section
/-! The re-entry relation, the claims and the banks that are not enabled at every command. -/

open Sys2Proof Sys2Proof.Machine Sys2Proof.TransitionController Sys2Proof.TransitionArithmetic Sys2Proof.Reentry

namespace Sys2Proof.EnabledBanks

/-! ### Bytes arrive (R114 to R119) -/

theorem joinSetup_up (now : Micros) (r : Request) (k : Link) : (k.joinSetup now r).up = k.up := by
  unfold Link.joinSetup
  dsimp only
  split
  · exact Link.flow_up ..
  · rfl

theorem arrive_up (now : Micros) (room : Bool) (r : Request) (k : Link) : (k.arrive now room r).up = k.up := by
  unfold Link.arrive
  split
  · rfl
  split
  · dsimp only
    split
    · exact Link.place_up ..
    · rfl
  · split
    · rfl
    · exact joinSetup_up ..

theorem checkGap_up (now : Micros) (k : Link) : (k.checkGap now).up = k.up := by
  unfold Link.checkGap
  split
  · split <;> rfl
  · rfl

/-- No byte brings a link UP or DOWN (R112). -/
theorem takeByte_up (now : Micros) (room : Bool) (y : RxByte) (k : Link) : (k.takeByte now room y).up = k.up := by
  unfold Link.takeByte
  split
  · split_ifs <;> rfl
  · dsimp only
    split_ifs
    · rfl
    · rfl
    · rfl
    · rfl
    · exact arrive_up now room _ { k with receiver := .hunting }
    · rfl

/-! ### Commands -/

/-- Whatever state a command answers next, the invariants are kept. -/
def AnswersKept (r : State) (a : Answer) : Prop := ∀ t, a = .next t → Keeps r t

theorem answersKept_next {r t : State} (h : Keeps r t) : AnswersKept r (.next t) := by
  intro u hu
  cases hu
  exact h

/-- The state right after power-on meets both invariants, whatever the state before (R182). -/
theorem atPowerOn_fits (pending : List Instr) (strapHigh : Bool) (present : Vector Bool 6) (pins : Vector Bool 8) :
    (State.atPowerOn pending strapHigh present pins).ReentryAcyclic ∧
      AbsentIdle (State.atPowerOn pending strapHigh present pins) := by
  refine defaults_fit rfl rfl rfl fun j hj b => ?_
  cases List.mem_singleton.mp hj
  rfl

/-- The link whose request is handed over is UP, also when the request has left its queue (R123). -/
theorem offered_up {s : State} {o : Offer} (hoffer : s.offer = some o) :
    ((s.takeRequest o).link o.link).up = true := by
  obtain ⟨-, -, hup⟩ := State.offer_spec hoffer
  rw [State.takeRequest_up, hup]

section
variable {r s : State} (h : Keeps r s)
include h

theorem Keeps.after (dt : Micros) : Keeps r (s.after dt) := h.same

theorem Keeps.reach (moment : Micros) : Keeps r (s.reach moment) := h.same

theorem Keeps.byteIn (l : LinkIx) (y : RxByte) (dt : Micros) : Keeps r (s.byteIn l y dt) := by
  refine (h.after dt).modLink l ?_
  split
  · exact (takeByte_up ..).trans (checkGap_up ..)
  · rfl

theorem Keeps.bytesIn (l : LinkIx) (bytes : List RxByte) (dt : Micros) : Keeps r (s.bytesIn l bytes dt) := by
  induction bytes generalizing s dt with
  | nil => exact h.after dt
  | cons y rest ih =>
    cases rest with
    | nil => exact h.byteIn l y dt
    | cons z rest => exact ih (h.byteIn l y dt) Config.linkByteTime

theorem execSweepEntry_kept : AnswersKept r (execSweepEntry s) := by
  unfold execSweepEntry
  split
  · exact answersKept_next h
  rename_i w _
  split
  · exact answersKept_next (h.endSweep _)
  rename_i e hdue
  split
  · have hlist : s.schedule = swept s.schedule ++ e :: (unswept s.schedule).tail := by
      rw [← unswept_of_nextDue hdue, swept_append_unswept]
    exact answersKept_next (h.dealEntry w hlist).settleSweep
  · exact answersKept_next h

theorem execSweepLinkedSet_kept : AnswersKept r (execSweepLinkedSet s) := by
  unfold execSweepLinkedSet
  split
  · exact answersKept_next h
  rename_i w _
  split
  · exact answersKept_next h
  split
  · exact answersKept_next h
  · rename_i set _
    have hlist : s.schedule = swept s.schedule ++ setMembers set (unswept s.schedule) ++
        afterSet set (unswept s.schedule) := by
      rw [List.append_assoc, setMembers_append_afterSet, swept_append_unswept]
    exact answersKept_next (h.dealSet w hlist fun e he => linked_of_mem_setMembers he).settleSweep

theorem execFieldUpdate_kept (b : BankIx) : AnswersKept r (execFieldUpdate b s) := by
  unfold execFieldUpdate
  split
  · rename_i hdue
    exact answersKept_next ((h.publishBank hdue).gather ..)
  · exact answersKept_next h

theorem execPresentChange_kept (l : LinkIx) (asserted : Bool) (dt : Micros) :
    AnswersKept r (execPresentChange l asserted dt s) := by
  refine answersKept_next ((h.after dt).modLink l ?_)
  split <;> rfl

/-- With its link UP each orphaned lock of the link is restored (R106). -/
theorem execLinkUp_kept (l : LinkIx) : AnswersKept r (execLinkUp l s) := by
  unfold execLinkUp
  split
  · rename_i moment _
    refine answersKept_next (Keeps.reclaim (s := s.reach moment) (h.reach moment) fun hs => ?_)
    refine restoredClaims_fits hs.claims ?_ (fun m hm => ?_) rfl
    · rw [State.link_modLink_same]
    · rw [State.link_modLink_other _ hm]
  · exact answersKept_next h

/-- With its link DOWN each lock of the link is orphaned (R106). -/
theorem execLinkDown_kept (l : LinkIx) : AnswersKept r (execLinkDown l s) := by
  unfold execLinkDown
  split
  · rename_i moment _
    have hcleared : Keeps r ((s.reach moment).clearLeversOf l) := (h.reach moment).clearLeversOf l
    refine answersKept_next (hcleared.reclaim (u := ((s.reach moment).modLink l Link.goDown).clearLeversOf l)
      fun hs => ?_)
    refine orphanedClaims_fits hs.claims ?_ (fun m hm => ?_) rfl
    · exact congrArg Link.up (State.link_modLink_same (s.reach moment) l Link.goDown)
    · exact congrArg Link.up (State.link_modLink_other (s.reach moment) hm Link.goDown)
  · exact answersKept_next h

theorem execInterbyteTimeout_kept (l : LinkIx) : AnswersKept r (execInterbyteTimeout l s) := by
  unfold execInterbyteTimeout
  split
  · exact answersKept_next ((h.reach _).modLink l rfl)
  · exact answersKept_next h

theorem execTransmitEnd_kept (l : LinkIx) : AnswersKept r (execTransmitEnd l s) := by
  unfold execTransmitEnd
  split
  · exact answersKept_next ((h.reach _).modLink l (Link.kick_up ..))
  · exact answersKept_next h

theorem execGpiFilterExpiry_kept (n : LineIx) : AnswersKept r (execGpiFilterExpiry n s) := by
  unfold execGpiFilterExpiry
  split
  · exact answersKept_next ((h.reach _).acceptEdge n)
  · exact answersKept_next h

theorem execLossDeadline_kept : AnswersKept r (execLossDeadline s) := by
  refine answersKept_next ?_
  split
  · exact h.synthetic
  · exact h

theorem execFreerunDeadline_kept : AnswersKept r (execFreerunDeadline s) := by
  refine answersKept_next ?_
  split
  · exact h
  · exact h.synthetic

/-- A scheduled request handed over and served (R126). -/
theorem takeScheduled_kept {o : Offer} (hoffer : s.offer = some o) {plan : Except Reason Plan}
    (hlawful : LawfulPlan plan) (hplan : ∀ p, plan = .ok p → PlanFits s p) (lead : Byte) :
    AnswersKept r (.next ((s.takeRequest o).serveScheduled o plan lead)) := by
  refine answersKept_next ((h.takeRequest o).serveScheduled o (offered_up hoffer) hlawful (fun p hp => ?_) lead)
  obtain ⟨hbanks, helements⟩ := hplan p hp
  exact ⟨hbanks, helements⟩

/-- Every command keeps the re-entry relation acyclic, the claims in form and the banks that are not enabled idle. -/
theorem exec_kept (i : Instr) : AnswersKept r (exec i s) := by
  cases i with
  | powerOn strapHigh =>
    obtain ⟨hacyclic, hidle⟩ := atPowerOn_fits s.pending strapHigh (tab fun l => (s.link l).present)
      (tab fun n => (s.line n).pin)
    exact answersKept_next ⟨fun _ => hacyclic, fun _ => hidle⟩
  | presentChange l asserted dt => exact execPresentChange_kept h l asserted dt
  | linkUp l => exact execLinkUp_kept h l
  | linkDown l => exact execLinkDown_kept h l
  | frameArrival l bytes dt => exact answersKept_next (h.bytesIn l bytes dt)
  | byteArrival l byte dt => exact answersKept_next (h.byteIn l byte dt)
  | interbyteTimeout l => exact execInterbyteTimeout_kept h l
  | transmitEnd l => exact execTransmitEnd_kept h l
  | queryBank => exact answersKept_next (h.queryOf _ fun t o a ht => ht.serveQueryBank o a)
  | queryClaims => exact answersKept_next (h.queryOf _ fun t o a ht => ht.serveQueryClaims o a)
  | querySchedule => exact answersKept_next (h.queryOf _ fun t o a ht => ht.serveQuerySchedule o)
  | queryLink => exact answersKept_next (h.queryOf _ fun t o a ht => ht.send ..)
  | queryGpi => exact answersKept_next (h.queryOf _ fun t o a ht => ht.serveQueryGpi o a)
  | queryConfig => exact answersKept_next (h.queryOf _ fun t o a ht => ht.serveQueryConfig o a)
  | queryField => exact answersKept_next (h.queryOf _ fun t o a ht => ht.send ..)
  | refPulse dt => exact answersKept_next (h.after dt).pulse
  | lossDeadline => exact execLossDeadline_kept h
  | freerunDeadline => exact execFreerunDeadline_kept h
  | sweepEntry => exact execSweepEntry_kept h
  | sweepLinkedSet => exact execSweepLinkedSet_kept h
  | fieldUpdate b => exact execFieldUpdate_kept h b
  | memoryReady data dt => exact answersKept_next (h.readyIn data dt)
  | memoryTimeout => exact answersKept_next h.expired
  | gpiPinChange n level dt => exact answersKept_next ((h.after dt).pinChange n level)
  | gpiFilterExpiry n => exact execGpiFilterExpiry_kept h n
  | malformedFrame =>
    simp only [exec, execMalformedFrame]
    split
    · exact answersKept_next ((h.takeRequest _).refuse ..)
    · exact answersKept_next h
  | select =>
    simp only [exec, execSelect]
    split
    · rename_i hoffer
      exact takeScheduled_kept h hoffer (planSelect_lawful s _ _ _) (fun _ => planSelect_fits) _
    · exact answersKept_next h
  | cut =>
    simp only [exec, execCut]
    split
    · rename_i hoffer
      exact takeScheduled_kept h hoffer (planMask_lawful s _ rfl) (fun _ => planMask_fits) _
    · exact answersKept_next h
  | auto =>
    simp only [exec, execAuto]
    split
    · rename_i hoffer
      exact takeScheduled_kept h hoffer (planMask_lawful s _ rfl) (fun _ => planMask_fits) _
    · exact answersKept_next h
  | hold =>
    simp only [exec, execHold]
    split
    · rename_i hoffer
      exact takeScheduled_kept h hoffer (planMask_lawful s _ rfl) (fun _ => planMask_fits) _
    · exact answersKept_next h
  | lever =>
    simp only [exec, execLever]
    split
    · rename_i hoffer
      exact answersKept_next ((h.takeRequest _).serveLever _ (offered_up hoffer) ..)
    · exact answersKept_next h
  | keyCut =>
    simp only [exec, execKeyCut]
    split
    · rename_i hoffer
      exact takeScheduled_kept h hoffer (planKeyCut_lawful s _ _ _) (fun _ => planKeyCut_fits) _
    · exact answersKept_next h
  | keySetup =>
    simp only [exec, execKeySetup]
    split
    · rename_i hoffer
      exact takeScheduled_kept h hoffer (planKeySetup_lawful s _ _ _ _ _ _ _ _ _) (fun _ => planKeySetup_fits) _
    · exact answersKept_next h
  | transSetup =>
    simp only [exec, execTransSetup]
    split
    · rename_i hoffer
      exact takeScheduled_kept h hoffer (planTransSetup_lawful s _ _ _ _ _ _ _ _ _) (fun _ => planTransSetup_fits) _
    · exact answersKept_next h
  | layers =>
    simp only [exec, execLayers]
    split
    · rename_i hoffer
      exact takeScheduled_kept h hoffer (planLayers_lawful s _ _) (fun _ => planLayers_fits) _
    · exact answersKept_next h
  | claim =>
    simp only [exec, execClaim]
    split
    · rename_i hoffer
      exact answersKept_next ((h.takeRequest _).serveClaim _ (offered_up hoffer) _)
    · exact answersKept_next h
  | release =>
    simp only [exec, execRelease]
    split
    · exact answersKept_next ((h.takeRequest _).serveRelease ..)
    · exact answersKept_next h
  | breakLock =>
    simp only [exec, execBreakLock]
    split
    · exact answersKept_next ((h.takeRequest _).serveBreak ..)
    · exact answersKept_next h
  | recallEffect =>
    simp only [exec, execRecall]
    split
    · rename_i hoffer
      exact answersKept_next ((h.takeRequest _).serveRecall _ (offered_up hoffer) ..)
    · exact answersKept_next h
  | store =>
    simp only [exec, execStore]
    split
    · exact answersKept_next ((h.takeRequest _).serveStore ..)
    · exact answersKept_next h
  | cancel =>
    simp only [exec, execCancel]
    split
    · exact answersKept_next ((h.takeRequest _).serveCancel ..)
    · exact answersKept_next h
  | config =>
    simp only [exec, execConfig]
    split
    · rename_i hoffer
      exact answersKept_next ((h.takeRequest _).serveConfig _ (offered_up hoffer) ..)
    · exact answersKept_next h
  | saveConfig =>
    simp only [exec, execSaveConfig]
    split
    · rename_i hoffer
      exact answersKept_next ((h.takeRequest _).serveSave _ (offered_up hoffer))
    · exact answersKept_next h
  | reset =>
    simp only [exec, execReset]
    split
    · exact answersKept_next ((h.takeRequest _).serveReset _)
    · exact answersKept_next h
  | parameterRecordSent =>
    simp only [exec, execParameterRecordSent]
    split
    · exact answersKept_next h.same
    · exact answersKept_next h
  | tallyFrameSent =>
    simp only [exec, execTallyFrameSent]
    split
    · exact answersKept_next h.same
    · exact answersKept_next h

end

/-- A step is a command run on a state with the same banks, list, claims, links and jobs. -/
theorem step_kept {s t : State} (hstep : step s = .next t) : Keeps s t := by
  unfold step at hstep
  split at hstep
  · exact answersKept_next (.refl s) t hstep
  · rename_i rest _
    have hrest : Keeps s { s with pending := rest } := (Keeps.refl s).same
    exact exec_kept hrest _ t hstep

/-- Settles O58: the closure computed is the one of the inductive definition (`inClosure_iff`); no operation brings a
source onto a bus that the loop test of R18 does not clear, so every step keeps the relation acyclic. -/
theorem reentryStaysAcyclic : Obligations.ReentryStaysAcyclic :=
  ⟨fun s c b => inClosure_iff s c b, fun _ _ hs hstep => (step_kept hstep).acyclic hs⟩

/-- Settles O59: new claims are of UP links at elements that are there, a link that goes UP or DOWN carries its locks
along, and only enabled banks are named by plans, recalls and sweep-ends. -/
theorem claimsFollowLinksAndAbsentBanksStayIdle : Obligations.ClaimsFollowLinksAndAbsentBanksStayIdle :=
  fun s t hs hstep => (absentBanksIdle_iff t).mpr ((step_kept hstep).idle ((absentBanksIdle_iff s).mp hs))

end Sys2Proof.EnabledBanks
end

section
/-! The state that power-on leaves (R182): what each unit and item holds there, and the invariants it meets. -/

open Sys2Proof Sys2Proof.Machine Sys2Proof.TransitionController Sys2Proof.TransitionArithmetic

namespace Sys2Proof.PowerOn

section
variable (pending : List Instr) (strapHigh : Bool) (present : Vector Bool 6) (pins : Vector Bool 8)

/-! ### The tables, one element at a time -/

theorem bank_atPowerOn (b : BankIx) : (State.atPowerOn pending strapHigh present pins).bank b = Bank.default :=
  pick_replicate ..

theorem claim_atPowerOn (e : ElemIx) : (State.atPowerOn pending strapHigh present pins).claim e = none :=
  pick_replicate ..

theorem link_atPowerOn (l : LinkIx) :
    (State.atPowerOn pending strapHigh present pins).link l = Link.atPowerOn (pick present l) := pick_tab ..

theorem line_atPowerOn (n : LineIx) :
    (State.atPowerOn pending strapHigh present pins).line n = GpiLine.atPowerOn (pick pins n) := pick_tab ..

theorem item_atPowerOn {number : Nat} (h : number < 88) :
    (State.atPowerOn pending strapHigh present pins).item number = defaultItem strapHigh number :=
  (dif_pos h).trans (pick_tab ..)

/-! ### The bounds (R67, R72, R82, R117, R149, R152) -/

theorem queuesBounded_atPowerOn : (State.atPowerOn pending strapHigh present pins).QueuesBounded := fun l => by
  rw [link_atPowerOn]
  exact ⟨Nat.zero_le _, Nat.zero_le _, List.nodup_nil⟩

theorem referenceLegal_atPowerOn : (State.atPowerOn pending strapHigh present pins).ReferenceLegal := by
  change Config.shortestField ≤ Config.firstPeriod ∧ Config.firstPeriod ≤ Config.longestField ∧ 0 ≤ Config.countLimit
  decide

theorem itemsLegal_atPowerOn : (State.atPowerOn pending strapHigh present pins).ItemsLegal := by
  refine (itemsLegal_iff _).mpr fun number hassigned => ?_
  have hitem : pick (State.atPowerOn pending strapHigh present pins).items number =
      defaultItem strapHigh number.val := pick_tab ..
  rw [hitem]
  exact defaultItem_fits strapHigh number hassigned

/-- The state right after power-on meets every invariant. -/
theorem invariants_atPowerOn : (State.atPowerOn pending strapHigh present pins).Invariants := by
  obtain ⟨hacyclic, hidle⟩ := EnabledBanks.atPowerOn_fits pending strapHigh present pins
  exact ⟨Nat.zero_le _, queuesBounded_atPowerOn _ _ _ _, ⟨fun _ he => (by cases he), fun _ hw => by cases hw⟩,
    defaults_legal rfl rfl, hacyclic, (EnabledBanks.absentBanksIdle_iff _).mpr hidle,
    (Schedule.transmitRoom_iff _).mpr (Schedule.sound_powerOn ..), referenceLegal_atPowerOn ..,
    itemsLegal_atPowerOn _ _ _ _⟩

end

/-- Settles O55: State.reset is one of the states that power-on leaves, and each of them meets every invariant. -/
theorem resetMeetsEveryInvariant : Obligations.ResetMeetsEveryInvariant :=
  ⟨invariants_atPowerOn .., invariants_atPowerOn⟩

/-! ### The items by their numbers (R179) -/

theorem defaultItem_dwell (high : Bool) (b : BankIx) : defaultItem high (8 + b.val) = 1 := by
  revert high b
  decide

theorem defaultItem_elementGroup (high : Bool) (e : ElemIx) :
    (defaultItem high (16 + e.val)).toNat = if e.val < 24 then e.val / 6 + 1 else 0 := by
  revert high e
  decide

theorem defaultItem_linkGroups (high : Bool) (p : LinkIx) : defaultItem high (48 + p.val) = 255 := by
  revert high p
  decide

theorem defaultItem_gpi (high : Bool) (n : LineIx) :
    defaultItem high (64 + n.val) = 0x0015 ∧ defaultItem high (72 + n.val) = 0 ∧ defaultItem high (80 + n.val) = 0 := by
  revert high n
  decide

/-- LINK_GROUPS at its default holds the groups 0 to 7 (R93). -/
theorem allGroups_bit (g : Nat) : (255 : BitVec 16).getLsbD g = decide (g < 8) := by
  by_cases hg : g < 16
  · have hall : ∀ i : Fin 16, (255 : BitVec 16).getLsbD i.val = decide (i.val < 8) := by decide
    exact hall ⟨g, hg⟩
  · rw [BitVec.getLsbD_of_ge _ _ (Nat.le_of_not_lt hg), decide_eq_false (by omega)]

theorem enabled_iff (s : State) (b : BankIx) : s.enabled b = true ↔ s.strapHigh = true ∨ b.val < 2 := by
  simp only [State.enabled, enabledUnder, Bool.or_eq_true, decide_eq_true_eq]

/-- The link at power-on measures the 10 ms of a PRESENT that stands asserted (R112, R182). -/
theorem link_atPowerOn_fields (present : Bool) :
    (Link.atPowerOn present).up = false ∧ (Link.atPowerOn present).receiver = .hunting ∧
      (Link.atPowerOn present).takeQ = [] ∧ (Link.atPowerOn present).setupQ = [] ∧
      (Link.atPowerOn present).outgoing = [] ∧ (Link.atPowerOn present).holdOff = false ∧
      (Link.atPowerOn present).takeRun = 0 ∧ (Link.atPowerOn present).frameErrors = 0 ∧
      (Link.atPowerOn present).overflow = 0 ∧ (Link.atPowerOn present).present = present ∧
      (Link.atPowerOn present).since = if present then some 0 else none :=
  ⟨rfl, rfl, rfl, rfl, rfl, rfl, rfl, rfl, rfl, rfl, rfl⟩

/-- Settles O40: each unit by the field that power-on gives it, each item by its default. -/
theorem powerOnLeavesEveryUnitAtItsDefault : Obligations.PowerOnLeavesEveryUnitAtItsDefault := by
  intro s high
  have hbank := bank_atPowerOn s.pending high (tab fun l => (s.link l).present) (tab fun n => (s.line n).pin)
  have hlink := link_atPowerOn s.pending high (tab fun l => (s.link l).present) (tab fun n => (s.line n).pin)
  have hline := line_atPowerOn s.pending high (tab fun l => (s.link l).present) (tab fun n => (s.line n).pin)
  have hitem := @item_atPowerOn s.pending high (tab fun l => (s.link l).present) (tab fun n => (s.line n).pin)
  refine ⟨State.atPowerOn s.pending high (tab fun l => (s.link l).present) (tab fun n => (s.line n).pin), rfl,
    rfl, rfl, rfl, rfl, rfl, claim_atPowerOn _ _ _ _, fun b => ⟨enabled_iff .., ?_⟩, fun l => ?_, rfl, rfl, rfl, rfl,
    rfl, rfl, (Nat.zero_add _).symm, rfl, rfl, rfl, rfl, rfl, ⟨rfl, rfl⟩, rfl, fun n => ?_, hitem (by decide), ?_, ?_,
    ?_, ?_, ?_, fun b => ?_, fun e => ?_, fun p g => ?_, fun n => ?_, fun u => ?_⟩
  · simp only [State.working, State.published, hbank]
    exact ⟨rfl, rfl, rfl, rfl, rfl, rfl, rfl⟩
  · rw [hlink, pick_tab]
    exact link_atPowerOn_fields _
  · rw [hline, pick_tab]
    exact ⟨rfl, rfl, rfl, rfl, rfl, rfl⟩
  · exact congrArg BitVec.toNat (hitem (number := 2) (by decide))
  · exact congrArg BitVec.toNat (hitem (number := 3) (by decide))
  · exact congrArg BitVec.toNat (hitem (number := 4) (by decide))
  · exact congrArg BitVec.toNat (hitem (number := 5) (by decide))
  · exact congrArg BitVec.toNat (hitem (number := 6) (by decide))
  · rw [State.dwellFields, hitem (by omega), defaultItem_dwell]
    rfl
  · rw [State.elementGroup, hitem (by omega), defaultItem_elementGroup]
  · rw [State.linkInGroup, hitem (by omega), defaultItem_linkGroups]
    exact allGroups_bit g
  · obtain ⟨hmode, harg, hlead⟩ := defaultItem_gpi high n
    rw [State.gpiMode, State.gpiArg, State.gpiLead, hitem (by omega), hitem (by omega), hitem (by omega), hmode, harg,
      hlead]
    exact ⟨rfl, rfl, rfl⟩
  · exact ⟨fun _ => ⟨rfl, rfl⟩, rfl, rfl, rfl, rfl, rfl, fun _ => rfl, fun _ _ => rfl, fun _ _ => rfl,
      fun _ => ⟨rfl, rfl, rfl⟩⟩

end Sys2Proof.PowerOn
end

section
/-! The field update of a bank (R10, R13, R37, R47, R48): what the published copy holds, and where its report goes. -/

open Sys2Proof Sys2Proof.Machine

namespace Sys2Proof.Publication

/-! ### The copy brought to a field (R10, R37) -/

theorem not_stale_refreshed (n x : FieldNo) : stale n (refreshed n x) = false := by
  unfold refreshed
  split
  · simp [stale, Config.staleAge]
  · rename_i hfresh
    simpa using hfresh

theorem keyer_refresh (r : BankRecord) (n : FieldNo) (k : KeyerIx) :
    (r.refresh n).keyer k = { r.keyer k with
      fillReady := refreshed n (r.keyer k).fillReady, keyReady := refreshed n (r.keyer k).keyReady } := pick_tab ..

theorem keyer_setLevels (r : BankRecord) (k : KeyerIx) :
    r.setLevels.keyer k = { r.keyer k with level := r.levelOf k } := pick_tab ..

/-- No slot's ready field and no dwell-end field of a record is stale once it has been refreshed (R10). -/
theorem refresh_fresh (r : BankRecord) (n : FieldNo) :
    ∀ x ∈ (r.refresh n).dwellEnd :: (r.refresh n).readyFields, stale n x = false := by
  have hfields : ∀ x ∈ (r.refresh n).dwellEnd :: (r.refresh n).readyFields, ∃ y, x = refreshed n y := fun x hx => by
    simp only [BankRecord.readyFields, keyer_refresh, List.mem_cons, List.mem_flatMap, List.not_mem_nil,
      or_false] at hx
    obtain rfl | rfl | ⟨k, -, rfl | rfl⟩ := hx
    · exact ⟨_, rfl⟩
    · exact ⟨_, rfl⟩
    · exact ⟨_, rfl⟩
    · exact ⟨_, rfl⟩
  intro x hx
  obtain ⟨y, rfl⟩ := hfields x hx
  exact not_stale_refreshed n y

/-- A keyer's level is a matter of its on-air flag and of the transition, which neither step changes (R37). -/
theorem level_refresh_setLevels (r : BankRecord) (n : FieldNo) (k : KeyerIx) :
    ((r.setLevels.refresh n).keyer k).level = (r.setLevels.refresh n).levelOf k := by
  have honAir : ((r.setLevels.refresh n).keyer k).onAir = (r.keyer k).onAir := by rw [keyer_refresh, keyer_setLevels]
  have hlevel : (r.setLevels.refresh n).levelOf k = r.levelOf k := by
    simp only [BankRecord.levelOf, honAir]
    rfl
  rw [hlevel, keyer_refresh, keyer_setLevels]

theorem reportDue_iff (old new : BankRecord) :
    reportDue old new = true ↔ new ≠ old ∨ new.waiting = true ∨ new.aborted = true ∨ new.done = true := by
  simp only [reportDue, BankRecord.flagged, Bool.or_eq_true, decide_eq_true_eq, or_assoc]

/-! ### The banks, the links and the rest (R13, R48, R142) -/

section
variable (s : State) (b : BankIx) (n : FieldNo)

/-- The Tally Resolver changes no bank and no link, and hands no field parameter record. -/
theorem gather_frame : s.gather n b = { s with
    table := (s.gather n b).table, gathering := (s.gather n b).gathering
    tallyPort := (s.gather n b).tallyPort, lines := (s.gather n b).lines } := by
  unfold State.gather
  dsimp only
  split <;> rfl

theorem updateBank_banks : (s.updateBank b n).banks = (s.publishBank b n).banks := by
  rw [State.updateBank, gather_frame]

theorem updateBank_links : (s.updateBank b n).links = (s.publishBank b n).links := by
  rw [State.updateBank, gather_frame]

theorem updateBank_frame : s.updateBank b n = { s with
    banks := (s.updateBank b n).banks, links := (s.updateBank b n).links
    paramPort := s.paramPort.hand s.now (paramRecord b n ((s.bank b).brought n (s.dwellFields b)))
    table := (s.updateBank b n).table, gathering := (s.updateBank b n).gathering
    tallyPort := (s.updateBank b n).tallyPort, lines := (s.updateBank b n).lines } := by
  rw [updateBank_banks, updateBank_links]
  exact gather_frame (s.publishBank b n) b n

theorem bank_updateBank (c : BankIx) :
    (s.updateBank b n).bank c = if c = b then (s.bank b).publish n (s.dwellFields b) else s.bank c := by
  rw [State.bank, updateBank_banks]
  exact pick_upd ..

/-- A report that is due goes to every link, and no link changes where none is (R13, R48, R121). -/
theorem links_updateBank {r : BankRecord} (hr : r = (s.bank b).brought n (s.dwellFields b)) :
    if reportDue (s.published b) r then ∀ l, (s.link l).Queues s.now (.bankState b n r) ((s.updateBank b n).link l)
    else (s.updateBank b n).links = s.links := by
  subst hr
  have hlinks : (s.updateBank b n).links = if reportDue (s.published b) ((s.bank b).brought n (s.dwellFields b)) then
      tab fun l => (s.link l).place s.now (.bankState b n ((s.bank b).brought n (s.dwellFields b)))
      else s.links := updateBank_links s b n
  split
  · rename_i hdue
    intro l
    have hlink : (s.updateBank b n).link l =
        (s.link l).place s.now (.bankState b n ((s.bank b).brought n (s.dwellFields b))) := by
      rw [State.link, hlinks, if_pos hdue, pick_tab]
    rw [hlink]
    exact Link.place_queues ..
  · rename_i hnone
    rw [hlinks, if_neg hnone]

end

/-- Settles O32: the record by `bank_updateBank`, the levels and ready fields by the last two steps that bring it, the
report by `links_updateBank`. -/
theorem fieldUpdatePublishesTheBank : Obligations.FieldUpdatePublishesTheBank := by
  intro s b n hdue
  have hexec : exec (.fieldUpdate b) s = .next (s.updateBank b n) := by simp only [exec, execFieldUpdate, hdue]
  refine ⟨_, (s.bank b).brought n (s.dwellFields b), hexec, rfl, updateBank_frame s b n, ?_, fun c hc => ?_,
    level_refresh_setLevels _ n, refresh_fresh _ n, ?_⟩
  · rw [bank_updateBank, if_pos rfl]
    rfl
  · rw [bank_updateBank, if_neg hc]
  · have hreport := links_updateBank s b n rfl
    simp only [reportDue_iff] at hreport
    exact hreport

end Sys2Proof.Publication
end

section
/-! The value tests (R2, R3, R63, R65, R94, R128, R136, R180, R181): the examination of each request's operands fails
with the reason of the first test, in the order of the rules, that they fail. -/

open Sys2Proof Sys2Proof.Machine Sys2Proof.TransitionController Sys2Proof.TransitionArithmetic

namespace Sys2Proof.ValueTests

/-! ### Examinations one after another -/

/-- The reason for which an examination fails. -/
def faultOf {α : Type} : Except Reason α → Option Reason
  | .error reason => some reason
  | .ok _ => none

theorem firstFault_cons (test : Bool) (reason : Reason) (tests : List (Bool × Reason)) :
    firstFault ((test, reason) :: tests) = if test then some reason else firstFault tests := by
  cases test <;> rfl

/-- Two tests with the same reason, made one after the other. -/
theorem firstFault_or (test test' : Bool) (reason : Reason) (tests : List (Bool × Reason)) :
    firstFault ((test || test', reason) :: tests) = firstFault ((test, reason) :: (test', reason) :: tests) := by
  cases test <;> cases test' <;> rfl

section
variable {α β : Type}

/-- A chain of examinations: the first one's test, then those of the rest. -/
theorem faultOf_bind {x : Except Reason α} {f : α → Except Reason β} {test : Bool} {reason : Reason}
    {tests : List (Bool × Reason)} (hx : faultOf x = firstFault [(test, reason)])
    (hf : ∀ a, x = .ok a → faultOf (f a) = firstFault tests) :
    faultOf (x >>= f) = firstFault ((test, reason) :: tests) := by
  rw [firstFault_cons] at hx ⊢
  cases x with
  | error r =>
    cases test with
    | true => exact hx
    | false => cases hx
  | ok a =>
    cases test with
    | true => cases hx
    | false => exact hf a rfl

/-- A chain of examinations of which the next has the same reason. -/
theorem faultOf_bind_or {x : Except Reason α} {f : α → Except Reason β} {test next : Bool} {reason : Reason}
    {tests : List (Bool × Reason)} (hx : faultOf x = firstFault [(test, reason)])
    (hf : ∀ a, x = .ok a → faultOf (f a) = firstFault ((next, reason) :: tests)) :
    faultOf (x >>= f) = firstFault ((test || next, reason) :: tests) := by
  rw [firstFault_or]
  exact faultOf_bind hx hf

theorem faultOf_map (x : Except Reason α) (f : α → β) : faultOf (x.map f) = faultOf x := by
  cases x <;> rfl

theorem named_fault {v : Option α} {test : Bool} (h : v.isNone = test) :
    faultOf (named v) = firstFault [(test, .badValue)] := by
  subst h
  cases v <;> rfl

/-- A value that the mask leaves out is not examined (R128). -/
theorem masked_fault {x : Except Reason α} {test : Bool} {reason : Reason} (mask : Byte) (bit : Nat)
    (hx : faultOf x = firstFault [(test, reason)]) :
    faultOf (masked mask bit x) = firstFault [(mask.getLsbD bit && test, reason)] := by
  unfold masked
  split
  · rename_i hbit
    rw [hbit, Bool.true_and, faultOf_map, hx]
  · rename_i hbit
    rw [Bool.eq_false_iff.mpr hbit, Bool.false_and]
    rfl

/-- A masked value is one examined, where its bit selects it, or none. -/
theorem masked_ok {mask : Byte} {bit : Nat} {x : Except Reason α} {v : Option α} (h : masked mask bit x = .ok v) :
    mask.getLsbD bit = true ∧ (∃ a, x = .ok a ∧ v = some a) ∨ mask.getLsbD bit = false ∧ v = none := by
  unfold masked at h
  split at h
  · rename_i hbit
    cases x with
    | error r => cases h
    | ok a =>
      cases h
      exact .inl ⟨hbit, a, rfl, rfl⟩
  · rename_i hbit
    cases h
    exact .inr ⟨Bool.eq_false_iff.mpr hbit, rfl⟩

end

/-! ### Codes by number -/

/-- Two codes, 0 and 1, and no other. -/
theorem isNone_twoCodes {α : Type} (c : Byte) (a b : α) :
    (if c = 0 then some a else if c = 1 then some b else none).isNone = decide (1 < c.toNat) := by
  by_cases hzero : c = 0
  · subst hzero
    rfl
  by_cases hone : c = 1
  · subst hone
    rfl
  have habove : 1 < c.toNat := by bv_omega
  rw [if_neg hzero, if_neg hone, decide_eq_true habove]
  rfl

theorem isNone_directionOf (c : Byte) : (directionOf c).isNone = decide (2 < c.toNat) := by
  revert c
  decide

theorem isNone_keyerOf (c : Byte) : (keyerOf c).isNone = decide (c.toNat = 0 ∨ 4 < c.toNat) := by
  unfold keyerOf
  split
  · rw [decide_eq_false (by omega)]
    rfl
  · rw [decide_eq_true (by omega)]
    rfl

theorem isNone_patternOf (c : Byte) : (patternOf c).isNone = decide (15 < c.toNat) := by
  unfold patternOf
  split
  · rw [decide_eq_false (by omega)]
    rfl
  · rw [decide_eq_true (by omega)]
    rfl

theorem isNone_layersOf (c : Byte) : (layersOf c).isNone = decide (31 < c.toNat) := by
  unfold layersOf
  split
  · rw [decide_eq_false (by omega)]
    rfl
  · rw [decide_eq_true (by omega)]
    rfl

theorem isNone_registerOf (c : Byte) : (registerOf c).isNone = decide (99 < c.toNat) := by
  unfold registerOf
  split
  · rw [decide_eq_false (by omega)]
    rfl
  · rw [decide_eq_true (by omega)]
    rfl

theorem maskFits_fault {mask : Byte} {fields : Nat} {test : Bool} (h : decide (2 ^ fields ≤ mask.toNat) = test) :
    faultOf (maskFits mask fields) = firstFault [(test, .badValue)] := by
  subst h
  unfold maskFits
  split
  · rw [decide_eq_false (by omega)]
    rfl
  · rw [decide_eq_true (by omega)]
    rfl

theorem decide_or_or (p q r : Prop) [Decidable p] [Decidable q] [Decidable r] :
    decide (p ∨ q ∨ r) = (decide (p ∨ q) || decide r) := by
  simp only [Bool.decide_or, Bool.or_assoc]

/-! ### Banks, sources and re-entry (R2, R3, R4) -/

section
variable (s : State)

theorem bankOf_fault (c : Byte) : faultOf (s.bankOf c) = firstFault [(!s.isBankNumber c, .badBank)] := by
  have henabled : ∀ b : BankIx, s.enabled b = true ↔ b.val < if s.strapHigh then 4 else 2 := fun b => by
    rw [PowerOn.enabled_iff]
    cases s.strapHigh <;> simp
  unfold State.bankOf State.isBankNumber
  split
  · split
    · rename_i hon
      rw [henabled] at hon
      dsimp only at hon
      rw [decide_eq_true (by omega)]
      rfl
    · rename_i hoff
      rw [henabled] at hoff
      dsimp only at hoff
      rw [decide_eq_false (by omega)]
      rfl
  · rename_i hrange
    have hfour : (if s.strapHigh then 4 else 2) ≤ 4 := by split <;> decide
    rw [decide_eq_false (by omega)]
    rfl

theorem sourceOf_fault (c : Byte) : faultOf (s.sourceOf c) = firstFault [(!s.isSourceNumber c, .badSource)] := by
  rw [← validSource_isSome]
  unfold State.sourceOf
  cases validSource s.strapHigh c <;> rfl

variable {s} {bank : Byte} {b : BankIx}

/-- The own re-entry test, by numbers (R3). -/
theorem notOwn_fault (hb : s.bankOf bank = .ok b) {source : Byte} {c : Source} (hc : s.sourceOf source = .ok c) :
    faultOf (notOwn b c) = firstFault [(decide (source.toNat = 50 + bank.toNat), .loop)] := by
  have howns : c = meCode b ↔ source.toNat = 50 + bank.toNat := by
    have hcode : (meCode b).val = 51 + b.val := rfl
    rw [bankOf_number hb, ← sourceOf_number hc, Fin.ext_iff, hcode]
    omega
  unfold notOwn
  split
  · rename_i hown
    rw [decide_eq_true (howns.mp hown)]
    rfl
  · rename_i hother
    rw [decide_eq_false fun hown => hother (howns.mpr hown)]
    rfl

theorem notOwnIf_fault (hb : s.bankOf bank = .ok b) {mask source : Byte} {bit : Nat} {c : Option Source}
    (hc : masked mask bit (s.sourceOf source) = .ok c) :
    faultOf (notOwnIf b c) =
      firstFault [(mask.getLsbD bit && decide (source.toNat = 50 + bank.toNat), .loop)] := by
  obtain ⟨hbit, a, ha, rfl⟩ | ⟨hbit, rfl⟩ := masked_ok hc
  · rw [hbit, Bool.true_and]
    exact notOwn_fault hb ha
  · rw [hbit, Bool.false_and]
    rfl

/-! ### Requests that name a bank (R65, R127, R128) -/

variable (s)

theorem planSelect_fault (bank bus source lead : Byte) :
    faultOf (s.planSelect bank bus source) = s.valueFault (.select bank bus source lead) := by
  refine faultOf_bind (bankOf_fault s bank) fun b hb => ?_
  refine faultOf_bind (named_fault (isNone_twoCodes ..)) fun u _ => ?_
  refine faultOf_bind (sourceOf_fault s source) fun c hc => ?_
  exact faultOf_bind (notOwn_fault hb hc) fun _ _ => rfl

theorem planKeyCut_fault (bank keyer onOff lead : Byte) :
    faultOf (s.planKeyCut bank keyer onOff) = s.valueFault (.keyCut bank keyer onOff lead) := by
  simp only [State.valueFault, decide_or_or]
  refine faultOf_bind (bankOf_fault s bank) fun b _ => ?_
  refine faultOf_bind_or (named_fault (isNone_keyerOf keyer)) fun k _ => ?_
  exact faultOf_bind (named_fault (isNone_twoCodes ..)) fun _ _ => rfl

theorem planKeySetup_fault (bank keyer mask fill key kind : Byte) (clip gain : Nat) (invert lead : Byte) :
    faultOf (s.planKeySetup bank keyer mask fill key kind clip gain invert) =
      s.valueFault (.keySetup bank keyer mask fill key kind clip gain invert lead) := by
  simp only [State.valueFault, decide_or_or, Bool.or_assoc]
  refine faultOf_bind (bankOf_fault s bank) fun b hb => ?_
  refine faultOf_bind_or (named_fault (isNone_keyerOf keyer)) fun k _ => ?_
  refine faultOf_bind_or (maskFits_fault rfl) fun _ _ => ?_
  refine faultOf_bind_or (masked_fault mask 2 (named_fault (isNone_twoCodes ..))) fun t _ => ?_
  refine faultOf_bind (masked_fault mask 5 (named_fault (isNone_twoCodes ..))) fun i _ => ?_
  refine faultOf_bind_or (masked_fault mask 0 (sourceOf_fault s fill)) fun f hf => ?_
  refine faultOf_bind (masked_fault mask 1 (sourceOf_fault s key)) fun y hy => ?_
  refine faultOf_bind_or (notOwnIf_fault hb hf) fun _ _ => ?_
  exact faultOf_bind (notOwnIf_fault hb hy) fun _ _ => rfl

theorem planTransSetup_fault (bank mask kind : Byte) (rate : Nat)
    (pattern direction softness width colour lead : Byte) :
    faultOf (s.planTransSetup bank mask kind rate pattern direction softness width colour) =
      s.valueFault (.transSetup bank mask kind rate pattern direction softness width colour lead) := by
  simp only [State.valueFault, Bool.or_assoc]
  refine faultOf_bind (bankOf_fault s bank) fun b _ => ?_
  refine faultOf_bind_or (maskFits_fault rfl) fun _ _ => ?_
  refine faultOf_bind_or (masked_fault mask 0 (named_fault (isNone_twoCodes ..))) fun k _ => ?_
  refine faultOf_bind_or (masked_fault mask 2 (named_fault (isNone_patternOf pattern))) fun p _ => ?_
  refine faultOf_bind_or (masked_fault mask 3 (named_fault (isNone_directionOf direction))) fun d _ => ?_
  exact faultOf_bind (masked_fault mask 6 (named_fault (isNone_twoCodes ..))) fun _ _ => rfl

theorem planLayers_fault (bank set lead : Byte) :
    faultOf (s.planLayers bank set) = s.valueFault (.layers bank set lead) := by
  refine faultOf_bind (bankOf_fault s bank) fun b _ => ?_
  exact faultOf_bind (named_fault (isNone_layersOf set)) fun _ _ => rfl

theorem bankRegister_fault (bank register : Byte) :
    faultOf (s.bankRegister bank register) = s.valueFault (.store bank register) := by
  refine faultOf_bind (bankOf_fault s bank) fun b _ => ?_
  exact faultOf_bind (named_fault (isNone_registerOf register)) fun _ _ => rfl

/-! ### Masks of banks and elements (R94, R139) -/

/-- A mask of more than the enabled banks, by its number. -/
theorem mask_beyond (high : Bool) (mask : Byte) :
    (mask = 0 ∨ 16 ≤ mask.toNat ∨ ((maskBanks mask.toNat).all (enabledUnder high)) = false) ↔
      mask.toNat = 0 ∨ (if high then 15 else 3) < mask.toNat := by
  revert high mask
  decide

theorem planMask_fault (mask : Byte) (a : Action) :
    faultOf (s.planMask mask a) =
      firstFault [(decide (mask.toNat = 0 ∨ (if s.strapHigh then 15 else 3) < mask.toNat), .badBank)] := by
  refine faultOf_bind (tests := []) ?_ fun _ _ => rfl
  have hbeyond := mask_beyond s.strapHigh mask
  unfold State.banksOf
  dsimp only
  split
  · rename_i hbad
    rw [decide_eq_true (hbeyond.mp hbad)]
    rfl
  · rename_i hgood
    rw [decide_eq_false fun hbad => hgood (hbeyond.mpr hbad)]
    rfl

theorem elementOf_fault (element : Byte) : faultOf (s.elementOf element) = s.valueFault (.claim element) := by
  simp only [State.valueFault, firstFault_cons, decide_eq_true_eq]
  unfold State.elementOf
  split
  · rename_i hrange
    rw [if_neg (by omega)]
    by_cases hbank : element.toNat < 24
    · have helement : elementBank ⟨element.toNat, hrange⟩ = some ⟨element.toNat / 6, by omega⟩ := dif_pos hbank
      have hon := PowerOn.enabled_iff s ⟨element.toNat / 6, by omega⟩
      simp only [helement]
      cases hstrap : s.strapHigh with
      | true =>
        rw [if_pos (hon.mpr (.inl hstrap)), if_neg (by simp)]
        rfl
      | false =>
        simp only [hstrap, Bool.false_eq_true, false_or] at hon
        simp only [hon, true_and]
        split
        · rw [if_neg (by omega)]
          rfl
        · rw [if_pos (by omega)]
          rfl
    · have helement : elementBank ⟨element.toNat, hrange⟩ = none := dif_neg hbank
      simp only [helement]
      rw [if_neg (by omega)]
      rfl
  · rw [if_pos (by omega)]
    rfl

/-! ### Configuration items and queries (R136, R179 to R181) -/

theorem itemValue_fault (number : Nat) (value : BitVec 16) :
    faultOf (s.itemValue number value) = s.codeFault number (s.item (number - 8)).toNat value.toNat := by
  unfold State.itemValue State.codeFault
  split
  · refine named_fault ?_
    rw [modeValue_eq]
    split_ifs
    · rw [decide_eq_false (by omega)]
      rfl
    · rw [decide_eq_true (by omega)]
      rfl
    · rw [decide_eq_false (by omega)]
      rfl
    · rw [decide_eq_true (by omega)]
      rfl
  split
  · rw [argValue_eq]
    simp only [firstFault_cons, Bool.and_eq_true, decide_eq_true_eq, Bool.not_eq_true']
    split_ifs <;> rfl
  · rfl

theorem planConfig_fault (item : Byte) (value : BitVec 16) :
    faultOf (s.planConfig item value) = s.valueFault (.config item value) := by
  have habsent : itemOfAbsentBank s.strapHigh item.toNat = true ↔ s.strapHigh = false ∧
      (10 ≤ item.toNat ∧ item.toNat ≤ 11 ∨ 28 ≤ item.toNat ∧ item.toNat ≤ 39) := by
    simp [itemOfAbsentBank]
  simp only [State.planConfig, State.valueFault, assigned_eq, habsent]
  split
  · rfl
  · rw [faultOf_map, itemValue_fault]

theorem byte_zero_iff (c : Byte) : c = 0 ↔ c.toNat = 0 := by bv_omega

theorem queryBankOf_fault (argument : Byte) : faultOf (s.queryBankOf argument) = s.valueFault (.query 1 argument) := by
  have htests : s.valueFault (.query 1 argument) = firstFault
      [(decide (argument.toNat = 0 ∨ 4 < argument.toNat), .badValue), (!s.isBankNumber argument, .badBank)] := by
    simp [State.valueFault]
  rw [htests, firstFault_cons]
  simp only [State.queryBankOf, byte_zero_iff, decide_eq_true_eq]
  split
  · rfl
  · exact bankOf_fault s argument

theorem claimSubject_fault (argument : Byte) :
    faultOf (s.claimSubject argument) = s.valueFault (.query 2 argument) := by
  have htests : s.valueFault (.query 2 argument) = firstFault [(decide (4 < argument.toNat), .badValue),
      (decide (argument.toNat ≠ 0) && !s.isBankNumber argument, .badBank)] := by
    simp [State.valueFault]
  simp only [htests, firstFault_cons, State.claimSubject, byte_zero_iff, decide_eq_true_eq]
  split
  · rename_i hsystem
    simp [hsystem, firstFault, faultOf]
  split
  · rfl
  · rename_i hbank _
    rw [decide_eq_true hbank, Bool.true_and, faultOf_map, bankOf_fault, firstFault_cons]

end

end Sys2Proof.ValueTests
end

section
/-! Refused requests (R94, R116, R126, R132): the value tests come before every other, and the command of a request that
a test refuses answers REFUSE with its reason and holder, and nothing more. -/

open Sys2Proof Sys2Proof.Machine Sys2Proof.TransitionController Sys2Proof.TransitionArithmetic

namespace Sys2Proof.ValueTests

/-! ### The reasons of the tests after the value tests (R98, R104, R126) -/

/-- No reason of a value test (R65). -/
def Later (reason : Reason) : Prop :=
  reason ≠ .badBank ∧ reason ≠ .badValue ∧ reason ≠ .badSource ∧ reason ≠ .loop

/-- A verdict that refuses, if it does, for no reason of a value test. -/
def LaterTests (verdict : Option (Reason × Option LinkIx)) : Prop :=
  ∀ reason holder, verdict = some (reason, holder) → Later reason

theorem laterTests_none : LaterTests none := fun _ _ h => by cases h

theorem laterTests_some {reason : Reason} {holder : Option LinkIx} (h : Later reason) :
    LaterTests (some (reason, holder)) := fun _ _ hsome => by cases hsome; exact h

theorem laterTests_orElse {first next : Option (Reason × Option LinkIx)} (hfirst : LaterTests first)
    (hnext : LaterTests next) : LaterTests (orElse first next) := by
  cases first with
  | none => exact hnext
  | some v => exact hfirst

theorem laterTests_refuseIf (test : Bool) {reason : Reason} (h : Later reason) : LaterTests (refuseIf test reason) := by
  cases test with
  | false => exact laterTests_none
  | true => exact laterTests_some h

theorem laterTests_claim (s : State) (p : LinkIx) (e : ElemIx) : LaterTests (s.claimRefusal p e) := by
  unfold State.claimRefusal
  split
  · exact laterTests_some (by simp [Later])
  split
  · exact laterTests_none
  split
  · exact laterTests_none
  split
  · exact laterTests_some (by simp [Later])
  split
  · exact laterTests_none
  · exact laterTests_some (by simp [Later])

theorem laterTests_elements (s : State) (p : LinkIx) (es : List ElemIx) : LaterTests (s.elementsRefusal p es) := by
  intro reason holder h
  obtain ⟨e, -, he⟩ := List.exists_of_findSome?_eq_some h
  exact laterTests_claim s p e reason holder he

theorem laterTests_break (s : State) (p : LinkIx) (e : ElemIx) : LaterTests (s.breakVerdict p e) := by
  unfold State.breakVerdict
  split
  · exact laterTests_some (by simp [Later])
  split
  · exact laterTests_some (by simp [Later])
  split
  · exact laterTests_some (by simp [Later])
  split
  · exact laterTests_some (by simp [Later])
  · exact laterTests_none

/-! ### The value tests come first (R65, R126) -/

/-- A verdict that is the fault of the value tests where they find one, and is of the later tests where they find
none. -/
structure TestsFirst (fault : Option Reason) (verdict : Option (Reason × Option LinkIx)) : Prop where
  refused : ∀ reason, fault = some reason → verdict = some (reason, none)
  passed : fault = none → LaterTests verdict

/-- A verdict made from an examination: its failure, or tests made of what it found. -/
theorem testsFirst_of {α : Type} {x : Except Reason α} {fault : Option Reason}
    {verdict : Option (Reason × Option LinkIx)} (hfault : faultOf x = fault)
    (herror : ∀ reason, x = .error reason → verdict = some (reason, none))
    (hok : ∀ a, x = .ok a → LaterTests verdict) : TestsFirst fault verdict := by
  subst hfault
  cases x with
  | error reason => exact ⟨fun _ hr => by cases hr; exact herror reason rfl, fun hnone => by cases hnone⟩
  | ok a => exact ⟨fun _ hr => (by cases hr), fun _ => hok a rfl⟩

theorem testsFirst_later {verdict : Option (Reason × Option LinkIx)} (h : LaterTests verdict) :
    TestsFirst none verdict := ⟨fun _ hr => (by cases hr), fun _ => h⟩

theorem testsFirst_failed {α : Type} {x : Except Reason α} {fault : Option Reason} (hfault : faultOf x = fault) :
    TestsFirst fault (failed x) :=
  testsFirst_of hfault (fun _ hx => by rw [hx]; rfl) fun _ hx => by rw [hx]; exact laterTests_none

theorem testsFirst_refuseIf (test : Bool) :
    TestsFirst (firstFault [(test, .badValue)]) (refuseIf test .badValue) := by
  cases test with
  | false => exact testsFirst_later laterTests_none
  | true => exact ⟨fun _ hr => by cases hr; rfl, fun hnone => by cases hnone⟩

section
variable (s : State) (l : LinkIx)

theorem testsFirst_plan {plan : Except Reason Plan} {fault : Option Reason} (hfault : faultOf plan = fault) :
    TestsFirst fault (s.planVerdict l plan) := by
  refine testsFirst_of hfault (fun _ hp => by rw [hp]; rfl) fun p hp => ?_
  rw [hp]
  exact laterTests_orElse (laterTests_elements _ _ _) (laterTests_refuseIf _ (by simp [Later]))

theorem testsFirst_recall (bank register : Byte) :
    TestsFirst (s.valueFault (.store bank register)) (s.recallVerdict l bank register) := by
  refine testsFirst_of (bankRegister_fault s bank register) (fun _ hx => ?_) fun _ hx => ?_
  · simp only [State.recallVerdict, hx]
  · simp only [State.recallVerdict, hx]
    exact laterTests_orElse (laterTests_elements _ _ _) (laterTests_orElse (laterTests_refuseIf _ (by simp [Later]))
      (laterTests_refuseIf _ (by simp [Later])))

/-- The seven subjects of a QUERY (R136). -/
theorem subject_cases {subject : Byte} (h : 1 ≤ subject.toNat ∧ subject.toNat ≤ 7) :
    subject = 1 ∨ subject = 2 ∨ subject = 3 ∨ subject = 4 ∨ subject = 5 ∨ subject = 6 ∨ subject = 7 := by
  bv_omega

/-- The subjects of which no argument is refused (R136). -/
theorem query_noFault {subject : Byte} (h : subject = 3 ∨ subject = 4 ∨ subject = 7) (argument : Byte) :
    s.valueFault (.query subject argument) = none := by
  obtain rfl | rfl | rfl := h
  · simp [State.valueFault, firstFault]
  · simp [State.valueFault, firstFault]
  · simp [State.valueFault, firstFault]

theorem query_unknown {subject : Byte} (h : ¬ (1 ≤ subject.toNat ∧ subject.toNat ≤ 7)) (argument : Byte)
    (q : QueueKind) (tag : Byte) : s.valueFault (.query subject argument) = some .badValue ∧
      s.verdict ⟨l, q, tag, .query subject argument⟩ = some (.badValue, none) := by
  have hunknown : subject.toNat = 0 ∨ 7 < subject.toNat := by omega
  constructor
  · rw [State.valueFault, firstFault_cons, if_pos]
    rw [decide_eq_true_eq]
    obtain hzero | habove := hunknown
    · exact .inl hzero
    · exact .inr (.inl habove)
  · obtain hzero | habove := hunknown
    · simp only [State.verdict, hzero]
    · obtain ⟨k, hk⟩ := Nat.exists_eq_add_of_le' habove
      simp only [State.verdict, hk]

/-- A QUERY of each subject (R136). -/
theorem testsFirst_query (q : QueueKind) (tag subject argument : Byte) :
    TestsFirst (s.valueFault (.query subject argument)) (s.verdict ⟨l, q, tag, .query subject argument⟩) := by
  by_cases hknown : 1 ≤ subject.toNat ∧ subject.toNat ≤ 7
  · obtain rfl | rfl | rfl | rfl | rfl | rfl | rfl := subject_cases hknown
    · exact testsFirst_failed (queryBankOf_fault s argument)
    · exact testsFirst_failed (claimSubject_fault s argument)
    · rw [query_noFault s (.inl rfl)]
      exact testsFirst_later laterTests_none
    · rw [query_noFault s (.inr (.inl rfl))]
      exact testsFirst_later laterTests_none
    · have htests : s.valueFault (.query 5 argument) = firstFault [(decide (1 < argument.toNat), .badValue)] := by
        simp [State.valueFault, firstFault_cons]
      rw [htests]
      exact testsFirst_refuseIf _
    · have htests : s.valueFault (.query 6 argument) =
          firstFault [(decide (assigned argument.toNat = false), .badValue)] := by
        simp [State.valueFault, firstFault_cons, assigned_eq]
      rw [htests]
      exact testsFirst_refuseIf _
    · rw [query_noFault s (.inr (.inr rfl))]
      exact testsFirst_later laterTests_none
  · obtain ⟨hfault, hverdict⟩ := query_unknown s l hknown argument q tag
    rw [hfault, hverdict]
    exact ⟨fun _ hr => by cases hr; rfl, fun hnone => by cases hnone⟩

end

/-- The value tests decide first on every request but a malformed frame. -/
theorem testsFirst_verdict (s : State) (o : Offer) (hbody : ∀ t fault, o.body ≠ .malformed t fault) :
    TestsFirst (s.valueFault o.body) (s.verdict o) := by
  obtain ⟨l, q, tag, body⟩ := o
  cases body with
  | malformed t fault => exact absurd rfl (hbody t fault)
  | select bank bus source lead => exact testsFirst_plan s l (planSelect_fault s bank bus source lead)
  | cut mask lead | auto mask lead | hold mask lead => exact testsFirst_plan s l (planMask_fault s mask _)
  | keyCut bank keyer onOff lead => exact testsFirst_plan s l (planKeyCut_fault s bank keyer onOff lead)
  | keySetup => exact testsFirst_plan s l (planKeySetup_fault s ..)
  | transSetup => exact testsFirst_plan s l (planTransSetup_fault s ..)
  | layers bank set lead => exact testsFirst_plan s l (planLayers_fault s bank set lead)
  | recallEffect bank register lead => exact testsFirst_recall s l bank register
  | query subject argument => exact testsFirst_query s l q tag subject argument
  | lever bank position =>
    refine testsFirst_of (bankOf_fault s bank) (fun _ hx => ?_) fun b hx => ?_
    · simp only [State.verdict, hx]
    · simp only [State.verdict, hx]
      exact laterTests_elements _ _ _
  | claim element =>
    refine testsFirst_of (elementOf_fault s element) (fun _ hx => ?_) fun e hx => ?_
    · simp only [State.verdict, hx]
    · simp only [State.verdict, hx]
      exact laterTests_claim _ _ _
  | release element =>
    refine testsFirst_of (elementOf_fault s element) (fun _ hx => ?_) fun e hx => ?_
    · simp only [State.verdict, hx]
    · simp only [State.verdict, hx]
      exact laterTests_refuseIf _ (by simp [Later])
  | breakLock element =>
    refine testsFirst_of (elementOf_fault s element) (fun _ hx => ?_) fun e hx => ?_
    · simp only [State.verdict, hx]
    · simp only [State.verdict, hx]
      exact laterTests_break _ _ _
  | store bank register =>
    refine testsFirst_of (bankRegister_fault s bank register) (fun _ hx => ?_) fun _ hx => ?_
    · simp only [State.verdict, hx]
    · simp only [State.verdict, hx]
      exact laterTests_orElse (laterTests_refuseIf _ (by simp [Later])) (laterTests_refuseIf _ (by simp [Later]))
  | config item value =>
    refine testsFirst_of (planConfig_fault s item value) (fun _ hx => ?_) fun _ hx => ?_
    · simp only [State.verdict, hx, failed, orElse]
    · simp only [State.verdict, hx, failed]
      exact laterTests_elements _ _ _
  | cancel named => exact testsFirst_later (laterTests_refuseIf _ (by simp [Later]))
  | saveConfig => exact testsFirst_later (laterTests_orElse (laterTests_elements _ _ _)
      (laterTests_refuseIf _ (by simp [Later])))
  | reset => exact testsFirst_later (laterTests_elements _ _ _)

/-! ### A refused request is answered and served no further (R126, R132) -/

theorem orElse_some {first next : Option (Reason × Option LinkIx)} {v : Reason × Option LinkIx}
    (h : orElse first next = some v) : first = some v ∨ first = none ∧ next = some v := by
  cases first with
  | none => exact .inr ⟨rfl, h⟩
  | some w => exact .inl h

theorem failed_some {α : Type} {x : Except Reason α} {reason : Reason} {holder : Option LinkIx}
    (h : failed x = some (reason, holder)) : ∃ r, x = .error r ∧ reason = r ∧ holder = none := by
  cases x with
  | error r =>
    cases h
    exact ⟨reason, rfl, rfl, rfl⟩
  | ok a => cases h

theorem refuseIf_some {p : Prop} [Decidable p] {reason r : Reason} {holder : Option LinkIx}
    (h : refuseIf p reason = some (r, holder)) : p ∧ r = reason ∧ holder = none := by
  by_cases hp : p
  · simp only [refuseIf, hp, decide_true, if_true, Option.some.injEq, Prod.mk.injEq] at h
    obtain ⟨rfl, rfl⟩ := h
    exact ⟨hp, rfl, rfl⟩
  · simp [refuseIf, hp] at h

section
variable {s : State} {o : Offer} {reason : Reason} {holder : Option LinkIx}

theorem serveScheduled_refused {plan : Except Reason Plan} (h : s.planVerdict o.link plan = some (reason, holder))
    (lead : Byte) : s.serveScheduled o plan lead = s.refuse o reason holder := by
  cases plan with
  | error r =>
    cases h
    rfl
  | ok p =>
    obtain helements | ⟨hpass, hroom⟩ := orElse_some h
    · simp only [State.serveScheduled, helements]
    · obtain ⟨hfull, rfl, rfl⟩ := refuseIf_some hroom
      simp only [State.serveScheduled, hpass, if_pos hfull]

theorem serveRecall_refused {bank register : Byte}
    (h : s.recallVerdict o.link bank register = some (reason, holder)) (lead : Byte) :
    s.serveRecall o bank register lead = s.refuse o reason holder := by
  cases hvalues : s.bankRegister bank register with
  | error r =>
    simp only [State.recallVerdict, hvalues] at h
    cases h
    simp only [State.serveRecall, hvalues]
  | ok named =>
    simp only [State.recallVerdict, hvalues] at h
    obtain helements | ⟨hpass, hrooms⟩ := orElse_some h
    · simp only [State.serveRecall, hvalues, helements]
    obtain hlist | ⟨hplace, hjobs⟩ := orElse_some hrooms
    · obtain ⟨hfull, rfl, rfl⟩ := refuseIf_some hlist
      simp only [State.serveRecall, hvalues, hpass, if_pos hfull]
    · obtain ⟨hbusy, rfl, rfl⟩ := refuseIf_some hjobs
      simp only [State.serveRecall, hvalues, hpass, if_neg (Schedule.refuseIf_none hplace), if_pos hbusy]

end

section
variable {s : State} {l : LinkIx} {q : QueueKind} {tag : Byte} {reason : Reason} {holder : Option LinkIx}

theorem serveLever_refused {bank : Byte} {position : Nat}
    (h : s.verdict ⟨l, q, tag, .lever bank position⟩ = some (reason, holder)) :
    s.serveLever ⟨l, q, tag, .lever bank position⟩ bank position =
      s.refuse ⟨l, q, tag, .lever bank position⟩ reason holder := by
  cases hb : s.bankOf bank with
  | error r =>
    simp only [State.verdict, hb] at h
    cases h
    simp only [State.serveLever, hb]
  | ok b =>
    simp only [State.verdict, hb] at h
    simp only [State.serveLever, hb, h]

theorem serveClaim_refused {element : Byte}
    (h : s.verdict ⟨l, q, tag, .claim element⟩ = some (reason, holder)) :
    s.serveClaim ⟨l, q, tag, .claim element⟩ element = s.refuse ⟨l, q, tag, .claim element⟩ reason holder := by
  cases he : s.elementOf element with
  | error r =>
    simp only [State.verdict, he] at h
    cases h
    simp only [State.serveClaim, he]
  | ok e =>
    simp only [State.verdict, he] at h
    simp only [State.serveClaim, he, h]

theorem serveRelease_refused {element : Byte}
    (h : s.verdict ⟨l, q, tag, .release element⟩ = some (reason, holder)) :
    s.serveRelease ⟨l, q, tag, .release element⟩ element = s.refuse ⟨l, q, tag, .release element⟩ reason holder := by
  cases he : s.elementOf element with
  | error r =>
    simp only [State.verdict, he] at h
    cases h
    simp only [State.serveRelease, he]
  | ok e =>
    simp only [State.verdict, he] at h
    obtain ⟨hother, rfl, rfl⟩ := refuseIf_some h
    simp only [State.serveRelease, he, if_neg hother]

theorem serveBreak_refused {element : Byte}
    (h : s.verdict ⟨l, q, tag, .breakLock element⟩ = some (reason, holder)) :
    s.serveBreak ⟨l, q, tag, .breakLock element⟩ element = s.refuse ⟨l, q, tag, .breakLock element⟩ reason holder := by
  cases he : s.elementOf element with
  | error r =>
    simp only [State.verdict, he] at h
    cases h
    simp only [State.serveBreak, he]
  | ok e =>
    simp only [State.verdict, he, State.breakVerdict] at h
    simp only [State.serveBreak, he]
    cases hmember : s.member l e with
    | false =>
      simp only [hmember, if_true, Option.some.injEq, Prod.mk.injEq] at h
      obtain ⟨rfl, rfl⟩ := h
      rfl
    | true =>
      simp only [hmember, Bool.true_eq_false, if_false] at h
      cases hclaim : s.claim e with
      | none =>
        simp only [hclaim, Option.some.injEq, Prod.mk.injEq] at h
        obtain ⟨rfl, rfl⟩ := h
        rfl
      | some c =>
        simp only [hclaim] at h
        cases hlock : c.lock with
        | false =>
          simp only [hlock, if_true, Option.some.injEq, Prod.mk.injEq] at h
          obtain ⟨rfl, rfl⟩ := h
          simp only [hlock, Bool.not_true, Bool.not_false, Bool.false_eq_true, if_false, if_true]
        | true =>
          cases horphaned : c.orphaned with
          | false =>
            simp only [hlock, horphaned, Bool.true_eq_false, if_false, if_true, Option.some.injEq, Prod.mk.injEq] at h
            obtain ⟨rfl, rfl⟩ := h
            simp only [hlock, horphaned, Bool.not_true, Bool.not_false, Bool.false_eq_true, if_false, if_true]
          | true =>
            simp [hlock, horphaned] at h

theorem serveStore_refused {bank register : Byte}
    (h : s.verdict ⟨l, q, tag, .store bank register⟩ = some (reason, holder)) :
    s.serveStore ⟨l, q, tag, .store bank register⟩ bank register =
      s.refuse ⟨l, q, tag, .store bank register⟩ reason holder := by
  cases hvalues : s.bankRegister bank register with
  | error r =>
    simp only [State.verdict, hvalues] at h
    cases h
    simp only [State.serveStore, hvalues]
  | ok named =>
    simp only [State.verdict, hvalues] at h
    obtain hgroup | ⟨hmember, hjobs⟩ := orElse_some h
    · obtain ⟨hmember, rfl, rfl⟩ := refuseIf_some hgroup
      simp only [State.serveStore, hvalues, hmember, Bool.not_false, if_true]
    · obtain ⟨hbusy, rfl, rfl⟩ := refuseIf_some hjobs
      have hthere : s.member l (transElement named.1) = true := by simpa using Schedule.refuseIf_none hmember
      simp only [State.serveStore, hvalues, hthere, Bool.not_true, Bool.false_eq_true, if_false, if_pos hbusy]

theorem serveSave_refused (h : s.verdict ⟨l, q, tag, .saveConfig⟩ = some (reason, holder)) :
    s.serveSave ⟨l, q, tag, .saveConfig⟩ = s.refuse ⟨l, q, tag, .saveConfig⟩ reason holder := by
  obtain helements | ⟨hpass, hjobs⟩ := orElse_some h
  · simp only [State.serveSave, helements]
  · obtain ⟨hbusy, rfl, rfl⟩ := refuseIf_some hjobs
    simp only [State.serveSave, hpass, if_pos hbusy]

theorem serveCancel_refused {named : Byte} (h : s.verdict ⟨l, q, tag, .cancel named⟩ = some (reason, holder)) :
    s.serveCancel ⟨l, q, tag, .cancel named⟩ named = s.refuse ⟨l, q, tag, .cancel named⟩ reason holder := by
  obtain ⟨hnone, rfl, rfl⟩ := refuseIf_some h
  have hempty : (s.schedule.filter (Entry.cancelledBy l named)).length = 0 := by
    rw [List.length_eq_zero_iff, List.filter_eq_nil_iff]
    exact List.any_eq_false.mp hnone
  simp only [State.serveCancel, hempty, if_true]

theorem serveConfig_refused {item : Byte} {value : BitVec 16}
    (h : s.verdict ⟨l, q, tag, .config item value⟩ = some (reason, holder)) :
    s.serveConfig ⟨l, q, tag, .config item value⟩ item value =
      s.refuse ⟨l, q, tag, .config item value⟩ reason holder := by
  cases hplan : s.planConfig item value with
  | error r =>
    simp only [State.verdict, hplan] at h
    cases h
    simp only [State.serveConfig, hplan]
  | ok stored =>
    simp only [State.verdict, hplan, failed, orElse] at h
    simp only [State.serveConfig, hplan, h]

theorem serveReset_refused (h : s.verdict ⟨l, q, tag, .reset⟩ = some (reason, holder)) :
    s.serveReset ⟨l, q, tag, .reset⟩ = s.refuse ⟨l, q, tag, .reset⟩ reason holder := by
  have helements : s.elementsRefusal l [systemElement] = some (reason, holder) := h
  simp only [State.serveReset, helements]

end

/-- The leaving of the request from its queue changes no test's outcome. -/
theorem verdict_takeRequest (s : State) (o p : Offer) : (s.takeRequest o).verdict p = s.verdict p := by
  obtain ⟨l, q, tag, body⟩ := p
  cases body <;> rfl

theorem planVerdict_takeRequest (s : State) (o : Offer) (l : LinkIx) (plan : Except Reason Plan) :
    (s.takeRequest o).planVerdict l plan = s.planVerdict l plan := by
  cases plan <;> rfl

section
variable {s : State} {l : LinkIx} {q : QueueKind} {tag subject argument : Byte} {reason : Reason}
  {holder : Option LinkIx}

/-- A QUERY of no known subject is refused by the command that meets it (R136, log 13). -/
theorem execQuery_unknown (ho : s.offer = some ⟨l, q, tag, .query subject argument⟩)
    (h : ¬ (1 ≤ subject.toNat ∧ subject.toNat ≤ 7)) :
    exec (Body.query subject argument).command s = .next ((s.takeRequest ⟨l, q, tag, .query subject argument⟩).refuse
      ⟨l, q, tag, .query subject argument⟩ .badValue none) := by
  have hcommand : (Body.query subject argument).command = .queryBank := by
    obtain hzero | habove : subject.toNat = 0 ∨ 7 < subject.toNat := by omega
    · simp only [Body.command, hzero]
    · obtain ⟨k, hk⟩ := Nat.exists_eq_add_of_le' habove
      simp only [Body.command, hk]
  have hother : subject ≠ 1 := by
    rintro rfl
    exact h (by decide)
  have hunknown : knownSubject subject = false := decide_eq_false h
  simp only [hcommand, exec, execQueryBank, State.queryOf, ho, if_neg hother, hunknown, Bool.false_eq_true, if_false]

theorem execQuery_refused (ho : s.offer = some ⟨l, q, tag, .query subject argument⟩)
    (h : s.verdict ⟨l, q, tag, .query subject argument⟩ = some (reason, holder)) :
    exec (Body.query subject argument).command s = .next ((s.takeRequest ⟨l, q, tag, .query subject argument⟩).refuse
      ⟨l, q, tag, .query subject argument⟩ reason holder) := by
  by_cases hknown : 1 ≤ subject.toNat ∧ subject.toNat ≤ 7
  · obtain rfl | rfl | rfl | rfl | rfl | rfl | rfl := subject_cases hknown
    · refine congrArg Host.Outcome.next ((Schedule.queryOf_eq ho _).trans ?_)
      obtain ⟨r, hvalue, rfl, rfl⟩ := failed_some (x := s.queryBankOf argument) h
      simp only [State.serveQueryBank, State.takeRequest_queryBankOf, hvalue]
    · refine congrArg Host.Outcome.next ((Schedule.queryOf_eq ho _).trans ?_)
      obtain ⟨r, hvalue, rfl, rfl⟩ := failed_some (x := s.claimSubject argument) h
      simp only [State.serveQueryClaims, State.takeRequest_claimSubject, hvalue]
    · cases h
    · cases h
    · refine congrArg Host.Outcome.next ((Schedule.queryOf_eq ho _).trans ?_)
      obtain ⟨hvalue, rfl, rfl⟩ := refuseIf_some h
      exact if_pos hvalue
    · refine congrArg Host.Outcome.next ((Schedule.queryOf_eq ho _).trans ?_)
      obtain ⟨hvalue, rfl, rfl⟩ := refuseIf_some h
      simp only [State.serveQueryConfig, hvalue, Bool.false_eq_true, if_false]
    · cases h
  · obtain ⟨-, hverdict⟩ := query_unknown s l hknown argument q tag
    rw [hverdict] at h
    cases h
    exact execQuery_unknown ho hknown

end

/-- The command of a request that a test refuses answers REFUSE (R126, R132). -/
theorem exec_refused {s : State} {o : Offer} {reason : Reason} {holder : Option LinkIx} (ho : s.offer = some o)
    (h : s.verdict o = some (reason, holder)) :
    exec o.body.command s = .next ((s.takeRequest o).refuse o reason holder) := by
  have hscheduled : ∀ plan lead, s.planOf o.body = some (plan, lead) →
      exec o.body.command s = .next ((s.takeRequest o).refuse o reason holder) := fun plan lead hplan => by
    rw [exec_scheduled ho hplan, serveScheduled_refused]
    rw [planVerdict_takeRequest, ← verdict_scheduled hplan, h]
  have htaken := (verdict_takeRequest s o o).trans h
  obtain ⟨l, q, tag, body⟩ := o
  cases body with
  | select | cut | auto | hold | keyCut | keySetup | transSetup | layers => exact hscheduled _ _ rfl
  | malformed t fault =>
    cases h
    simp only [Body.command, exec, execMalformedFrame, ho]
  | lever => simp only [Body.command, exec, execLever, ho, serveLever_refused htaken]
  | claim => simp only [Body.command, exec, execClaim, ho, serveClaim_refused htaken]
  | release => simp only [Body.command, exec, execRelease, ho, serveRelease_refused htaken]
  | breakLock => simp only [Body.command, exec, execBreakLock, ho, serveBreak_refused htaken]
  | recallEffect => simp only [Body.command, exec, execRecall, ho, serveRecall_refused htaken]
  | store => simp only [Body.command, exec, execStore, ho, serveStore_refused htaken]
  | cancel => simp only [Body.command, exec, execCancel, ho, serveCancel_refused htaken]
  | config => simp only [Body.command, exec, execConfig, ho, serveConfig_refused htaken]
  | saveConfig => simp only [Body.command, exec, execSaveConfig, ho, serveSave_refused htaken]
  | reset => simp only [Body.command, exec, execReset, ho, serveReset_refused htaken]
  | query => exact execQuery_refused ho h

/-- Settles O2: the value tests by `testsFirst_verdict`; a refused request by `exec_refused`, whose only writes are the
Arbiter's and one frame queued. -/
theorem refusedRequestWritesNothing : Obligations.RefusedRequestWritesNothing := by
  refine ⟨fun s o => ⟨fun t fault hbody => ?_, fun fault hfault => ?_, fun hbody => ?_⟩,
    fun s o reason holder ho hverdict => ?_⟩
  · simp only [State.verdict, hbody]
  · have hbody : ∀ t f, o.body ≠ .malformed t f := fun t f hb => by
      rw [hb] at hfault
      cases hfault
    exact (testsFirst_verdict s o hbody).refused fault hfault
  · exact (testsFirst_verdict s o hbody).passed
  · exact ⟨_, exec_refused ho hverdict, rfl, fun l hl => ControlClaims.replied_other s o _ hl,
      ControlClaims.replied_queues s o _⟩

end Sys2Proof.ValueTests
end
